-- ==== Sys2Proof/Word.lean ====
section
/-! DEFINITION. The word types of the part: bytes of the station loop, the 24-bit conveyor position (R1), the
32-bit millisecond time base (R2), the 16-bit board tag (R11). -/
namespace Sys2Proof

/-- One byte of a telegram. -/
abbrev Byte := BitVec 8

/-- The conveyor position: a count of tenths that wraps (R1). -/
abbrev Pos := BitVec 24

/-- The millisecond time base: it wraps and intervals are modulo 2^32 (R2). -/
abbrev Time := BitVec 32

/-- The number the tracker gives each board record (R11). -/
abbrev Tag := BitVec 16

/-- A recipe row, 0 to 31. -/
abbrev Row := Fin 32

end Sys2Proof
end

