-- ==== Sys2Proof/Syntax.lean ====
section
/-! DEFINITION. The commands of the block, one constructor per row of spec/opcode_table.json, and the directives a
REQUEST telegram can carry (R146, the directive index of 11_requests_tables_and_the_loader.md). -/
namespace Sys2Proof

/-- The two loop ports: UP faces the supervisor, DOWN the field nodes (R141). -/
inductive Port where
  | up
  | down
  deriving DecidableEq, Repr

/-- The directives of the directive index, with their operands as the payload carries them (R171). -/
inductive Directive where
  /-- Code 1 (R174). -/
  | identify
  /-- Code 2: selector and part (R175). -/
  | readStatus (selector part : Byte)
  /-- Code 3: table, first and last row, first and last column, mode (R178). -/
  | setCursor (table firstRow lastRow firstCol lastCol mode : Byte)
  /-- Code 4: the more flag and the bytes after the control byte (R179). -/
  | writeRun (more : Bool) (bytes : List Byte)
  /-- Code 5 (R181). -/
  | readRun (count : Byte)
  /-- Code 6 (R24). -/
  | readTrack (index : Byte)
  /-- Code 7: recipe row and board id, whose length is the second operand (R9). -/
  | announceBoard (row : Byte) (id : List Byte)
  /-- Code 8 (R10). -/
  | withdrawAnnounces
  /-- Code 9 (R23). -/
  | purgeTrack
  /-- Code 10: the enables byte and the four filters' operands and the skip (R123). -/
  | readAlarms (enables kind : Byte) (source : BitVec 16) (minSeverity state skip : Byte)
  /-- Code 11: form 0 a pair, form 1 ALL (R122). -/
  | acknowledge (form kind : Byte) (source : BitVec 16)
  /-- Code 12: 0 IDLE, 1 WARMUP, 2 DRAIN, 3 RESUME, 4 SERVICE (R126). -/
  | setState (state : Byte)
  /-- Code 13 (R136). -/
  | manualOutput (function : Byte) (value : BitVec 16)
  /-- Code 14 (R139). -/
  | clockHold
  /-- Code 15 (R139). -/
  | clockSet (days : BitVec 16) (hours minutes seconds : Byte)
  /-- Code 16 (R139). -/
  | clockRun
  /-- Code 17 (R137). -/
  | lineRestart
  /-- Code 18 (R154). -/
  | setAddress (address : Byte)
  deriving DecidableEq, Repr

/-- Who sends a directive command: the source address and the sequence number of the REQUEST that carries it as its one
directive (R146, R170; log entry 6). -/
structure Requester where
  src : Byte
  seq : Byte
  deriving DecidableEq, Repr

/-- The commands, one constructor per row of spec/opcode_table.json. -/
inductive Instr where
  /-- RESET_N is asserted; the levels of ENC_A, ENC_B, EYE and the straps it samples (R3, R7, R154). -/
  | deviceReset (encA encB eye : Bool) (straps : BitVec 6)
  /-- The new levels of ENC_A and ENC_B (R3). -/
  | encoderTransition (a b : Bool)
  /-- The new raw level of EYE (R7). -/
  | eyeChange (blocked : Bool)
  | speedMeasurement
  | conveyorStall
  /-- Zone z is index z - 1 (R53). -/
  | idleTimerExpiry (zone : Fin 4)
  /-- Loop n is index n - 1 (R57). -/
  | heatFail (loop : Fin 5)
  | feedTimerExpiry
  | potRefreshTimerExpiry
  | flowLowTimerExpiry
  | runOnTimerExpiry
  | exhaustRefreshTimerExpiry
  | settleTimerExpiry
  | secondTimerExpiry
  | linkDown (port : Port)
  | linkUp (port : Port)
  /-- A complete run of telegram bytes (R144). -/
  | telegramReceived (port : Port) (run : List Byte)
  /-- The channel map entry whose age timer expires (R161). -/
  | ageTimerExpiry (entry : Fin 32)
  | telegramBoundary (port : Port)
  | identify (r : Requester)
  | readStatus (r : Requester) (selector part : Byte)
  | setCursor (r : Requester) (table firstRow lastRow firstCol lastCol mode : Byte)
  /-- The values, two bytes each, most significant first (R179). -/
  | writeRun (r : Requester) (values : List (BitVec 16))
  | readRun (r : Requester) (count : Byte)
  | readTrack (r : Requester) (index : Byte)
  | announceBoard (r : Requester) (row : Byte) (id : List Byte)
  | withdrawAnnounces (r : Requester)
  | purgeTrack (r : Requester)
  | readAlarms (r : Requester) (enables kind : Byte) (source : BitVec 16) (minSeverity state skip : Byte)
  | acknowledge (r : Requester) (kind : Byte) (source : BitVec 16)
  | acknowledgeAll (r : Requester)
  | setStateIdle (r : Requester)
  | setStateWarmup (r : Requester)
  | setStateDrain (r : Requester)
  | setStateResume (r : Requester)
  | setStateService (r : Requester)
  | manualOutput (r : Requester) (function : Byte) (value : BitVec 16)
  | clockHold (r : Requester)
  | clockSet (r : Requester) (days : BitVec 16) (hours minutes seconds : Byte)
  | clockRun (r : Requester)
  | lineRestart (r : Requester)
  | setAddress (r : Requester) (address : Byte)
  | idleFillReception (port : Port)
  deriving DecidableEq, Repr

end Sys2Proof
end

