-- ==== Sys2Proof/Decode.lean ====
section
/-! DEFINITION. The command a word spells by the bits of spec/opcode_table.json. No row of the table gives bits (its
rows' fields are empty and none has fixed bits), so no word spells a command and the decoder refuses every word (log
entry 23). The bits the manual does give, those of a REQUEST payload (R146, R171), are read in Machine/Operands.lean. -/
namespace Sys2Proof

/-- The command that the nbits-bit word w spells by the table's bits: none, since no row of the table gives bits. -/
def decodeTableWord (_nbits _w : Nat) : Option Instr := none

end Sys2Proof
end

