-- ==== Sys2Proof/Config.lean ====
section
/-! DEFINITION. What the part fixes (the capacities of 00_scope.md) and the values the manual leaves open. -/
namespace Sys2Proof.Config

/-- Board records in the track queue (R11). -/
def trackCapacity : Nat := 16
/-- Entries in the announce queue (R8). -/
def announceCapacity : Nat := 8
/-- Alarm records besides LIST_FULL (R119). -/
def alarmCapacity : Nat := 24
/-- Records at or below which LIST_FULL clears (R121). -/
def listFullLevel : Nat := 20
/-- Telegrams in each forward FIFO (R150). -/
def fifoCapacity : Nat := 4
/-- Telegrams in the UP urgent queue (R152). -/
def upUrgentCapacity : Nat := 8
/-- Telegrams in the UP normal queue (R152). -/
def upNormalCapacity : Nat := 16
/-- Bytes of a telegram's payload (R144). -/
def payloadMax : Nat := 60
/-- Forwarded telegrams a normal telegram waits through (R153). -/
def fairnessLimit : Nat := 4
/-- The silence after which a link is DOWN, in ms (R142). -/
def silenceLimit : Nat := 20
/-- The one-second timers, in ms (R6, R88, R99, R138). -/
def secondMs : Nat := 1000

/-- The most internal events one command may cascade into before the rest wait for the next command:
DESIGN CHOICE (log entry 4), unsafe if a cascade were longer. -/
def cascadeFuel : Nat := 65536

/-- FREE VALUE (log entry 9), safe: what a reply carries after the sequence number and the results that fit whole, when its
results outgrow the payload (R146 says only that the reply is kept within 60 bytes); the model keeps what fits of it. -/
opaque overfullReply : List Byte → List Byte

/-- FREE VALUE (log entry 10), safe: the four bytes an alarm image carries for a raise value that does not fit a
signed 32-bit field (R147; a dwell can reach 2^32 - 1). -/
opaque wideRaiseValue : Int → BitVec 32

end Sys2Proof.Config
end

