-- ==== Sys2Proof/Machine/Catalogue.lean ====
section
/-! DEFINITION. The named sets of the manual (line states, alarm kinds, severities, quantities, output functions, states
of the blocks) with the numbers the byte layouts and tables give them. -/
namespace Sys2Proof.Machine

/-- Severities in increasing order (R106). -/
inductive Severity where
  | note | warn | drain | stop
  deriving DecidableEq, Repr

/-- NOTE 0, WARN 1, DRAIN 2, STOP 3 (R106). -/
def severityNum : Severity → Nat
  | .note => 0 | .warn => 1 | .drain => 2 | .stop => 3

/-- The severity a policy cell of 0 to 3 names (R108). -/
def severityOf : Nat → Severity
  | 0 => .note | 1 => .warn | 2 => .drain | _ => .stop

/-- The six line states (R125). -/
inductive LineState where
  | idle | warmup | ready | drain | stopped | service
  deriving DecidableEq, Repr

/-- 0 IDLE, 1 WARMUP, 2 READY, 3 DRAIN, 4 STOPPED, 5 SERVICE (R147). -/
def lineStateNum : LineState → Nat
  | .idle => 0 | .warmup => 1 | .ready => 2 | .drain => 3 | .stopped => 4 | .service => 5

/-- What a LINE_STATE notice names as the cause (R130). -/
inductive LineCause where
  | directive | settleTimer | holdingSeverity | lineRestart
  deriving DecidableEq, Repr

/-- 0 directive, 1 settle timer, 2 holding severity, 3 LINE RESTART (R147). -/
def lineCauseNum : LineCause → Nat
  | .directive => 0 | .settleTimer => 1 | .holdingSeverity => 2 | .lineRestart => 3

/-- The 26 alarm kinds (R106). -/
inductive AlarmKind where
  | sensorFault | sensorSilent | overtemp | heatFail | nodeFault | fluxPressureLow | trackOverflow | eyeBlocked
  | shortBoard | overlength | unannounced | announceRejected | speedOut | conveyorStall | conveyorReverse | dwellOut
  | levelCritical | levelOver | feedJam | fumeFlowLow | fumeLoss | filterLoaded | fieldLinkLost | supervisorLinkLost
  | linkOverrun | listFull
  deriving DecidableEq, Repr

/-- The kinds in the order of their numbers, kind 1 first (R106). -/
def alarmKinds : List AlarmKind :=
  [.sensorFault, .sensorSilent, .overtemp, .heatFail, .nodeFault, .fluxPressureLow, .trackOverflow, .eyeBlocked,
   .shortBoard, .overlength, .unannounced, .announceRejected, .speedOut, .conveyorStall, .conveyorReverse, .dwellOut,
   .levelCritical, .levelOver, .feedJam, .fumeFlowLow, .fumeLoss, .filterLoaded, .fieldLinkLost, .supervisorLinkLost,
   .linkOverrun, .listFull]

/-- A kind's number, 1 to 26 (R106). -/
def alarmKindNum : AlarmKind → Nat
  | .sensorFault => 1 | .sensorSilent => 2 | .overtemp => 3 | .heatFail => 4 | .nodeFault => 5 | .fluxPressureLow => 6
  | .trackOverflow => 7 | .eyeBlocked => 8 | .shortBoard => 9 | .overlength => 10 | .unannounced => 11
  | .announceRejected => 12 | .speedOut => 13 | .conveyorStall => 14 | .conveyorReverse => 15 | .dwellOut => 16
  | .levelCritical => 17 | .levelOver => 18 | .feedJam => 19 | .fumeFlowLow => 20 | .fumeLoss => 21
  | .filterLoaded => 22 | .fieldLinkLost => 23 | .supervisorLinkLost => 24 | .linkOverrun => 25 | .listFull => 26

/-- The kind of a number 1 to 26 (R122). -/
def alarmKindOf (n : Nat) : Option AlarmKind :=
  if n = 0 then none else alarmKinds[n - 1]?

/-- The default severity of each kind (R106); LIST_FULL has none of its own (R121). -/
def defaultSeverity : AlarmKind → Severity
  | .sensorFault => .drain | .sensorSilent => .drain | .overtemp => .stop | .heatFail => .warn | .nodeFault => .drain
  | .fluxPressureLow => .warn | .trackOverflow => .stop | .eyeBlocked => .stop | .shortBoard => .note
  | .overlength => .warn | .unannounced => .note | .announceRejected => .note | .speedOut => .warn
  | .conveyorStall => .warn | .conveyorReverse => .drain | .dwellOut => .note | .levelCritical => .stop
  | .levelOver => .drain | .feedJam => .warn | .fumeFlowLow => .drain | .fumeLoss => .stop | .filterLoaded => .warn
  | .fieldLinkLost => .stop | .supervisorLinkLost => .note | .linkOverrun => .note | .listFull => .note

/-- The unmaskable kinds, whose policy row carries a floor (R108). -/
def unmaskable : AlarmKind → Bool
  | .overtemp | .trackOverflow | .levelCritical | .fumeLoss | .fieldLinkLost => true
  | _ => false

/-- The momentary kinds: raised for an event, with no clear (R106). -/
def momentary : AlarmKind → Bool
  | .trackOverflow | .shortBoard | .overlength | .unannounced | .announceRejected | .dwellOut | .linkOverrun => true
  | _ => false

/-- The states of an alarm record (R109). -/
inductive AlarmState where
  | active | acked | cleared
  deriving DecidableEq, Repr

/-- 0 ACTIVE, 1 ACKED, 2 CLEARED (R147). -/
def alarmStateNum : AlarmState → Nat
  | .active => 0 | .acked => 1 | .cleared => 2

/-- The flux state of a board (R11). -/
inductive FluxState where
  | none | pending | spraying | done | partially | missed
  deriving DecidableEq, Repr

/-- 0 NONE, 1 PENDING, 2 SPRAYING, 3 DONE, 4 PARTIAL, 5 MISSED (R148). -/
def fluxStateNum : FluxState → Nat
  | .none => 0 | .pending => 1 | .spraying => 2 | .done => 3 | .partially => 4 | .missed => 5

/-- The phase of a spray window (R29). -/
inductive Phase where
  | before | opened | passed
  deriving DecidableEq, Repr

/-- The flux pressure status (R38). -/
inductive PressureStatus where
  | none | normal | low
  deriving DecidableEq, Repr

/-- The state of a heater loop (R43). -/
inductive LoopState where
  | off | active | fault | manual
  deriving DecidableEq, Repr

/-- The feeder states (R76). -/
inductive FeederState where
  | off | idle | feeding | paused | jammed
  deriving DecidableEq, Repr

/-- The status of a level, flow or filter sensor; only the exhaust monitor's have NONE (R76, R95). -/
inductive SensorStatus where
  | none | good | fault | silent
  deriving DecidableEq, Repr

/-- The two stages of flow supervision (R101). -/
inductive FlowStage where
  | one | two
  deriving DecidableEq, Repr

/-- The bands of the exhaust flow (R100). -/
inductive FlowBand where
  | low | margin | recovered
  deriving DecidableEq, Repr

/-- A stack lamp (R135). -/
inductive Lamp where
  | off | steady | blinking
  deriving DecidableEq, Repr

/-- The class of a station (R173). -/
inductive StationClass where
  | operate | service
  deriving DecidableEq, Repr

/-- What a channel measures (R157). -/
inductive Quantity where
  | none | zoneTemp1 | zoneTemp2 | zoneTemp3 | zoneTemp4 | potTemp | potLevel | exhaustFlow | filterDp | fluxPressure
  deriving DecidableEq, Repr

/-- 0 NONE, 1 to 4 ZONE_TEMP1 to ZONE_TEMP4, 5 POT_TEMP, 6 POT_LEVEL, 7 EXHAUST_FLOW, 8 FILTER_DP, 9 FLUX_PRESSURE (R157). -/
def quantityNum : Quantity → Nat
  | .none => 0 | .zoneTemp1 => 1 | .zoneTemp2 => 2 | .zoneTemp3 => 3 | .zoneTemp4 => 4 | .potTemp => 5
  | .potLevel => 6 | .exhaustFlow => 7 | .filterDp => 8 | .fluxPressure => 9

/-- The quantity a channel map cell of 0 to 9 names (R157). -/
def quantityOf : Nat → Quantity
  | 0 => .none | 1 => .zoneTemp1 | 2 => .zoneTemp2 | 3 => .zoneTemp3 | 4 => .zoneTemp4 | 5 => .potTemp
  | 6 => .potLevel | 7 => .exhaustFlow | 8 => .filterDp | _ => .fluxPressure

/-- The range a quantity's converted value is clamped to (R159). -/
def quantityRange : Quantity → Int × Int
  | .potLevel => (0, 2000) | .exhaustFlow => (0, 10000) | .filterDp => (0, 5000) | .fluxPressure => (0, 1000)
  | _ => (-500, 5000)

/-- The temperature quantity of loop n, index n - 1 (R43). -/
def loopQuantity : Nat → Quantity
  | 0 => .zoneTemp1 | 1 => .zoneTemp2 | 2 => .zoneTemp3 | 3 => .zoneTemp4 | _ => .potTemp

/-- The eight output functions (R106, R166). -/
inductive OutFn where
  | heat1 | heat2 | heat3 | heat4 | heatPot | wavePump | feeder | exhaustFan
  deriving DecidableEq, Repr

/-- The functions in the order of their numbers (R106). -/
def outFns : List OutFn := [.heat1, .heat2, .heat3, .heat4, .heatPot, .wavePump, .feeder, .exhaustFan]

/-- A function's number, 0 to 7 (R106). -/
def outFnNum : OutFn → Nat
  | .heat1 => 0 | .heat2 => 1 | .heat3 => 2 | .heat4 => 3 | .heatPot => 4 | .wavePump => 5 | .feeder => 6
  | .exhaustFan => 7

/-- The output function of loop n, index n - 1 (R43). -/
def loopFn : Nat → OutFn
  | 0 => .heat1 | 1 => .heat2 | 2 => .heat3 | 3 => .heat4 | _ => .heatPot

/-- The kinds of telegram the part reads or writes (R144). -/
def kindSample : Nat := 1
/-- Kind 2 OUTPUT (R144). -/
def kindOutput : Nat := 2
/-- Kind 3 REQUEST (R144). -/
def kindRequest : Nat := 3
/-- Kind 4 REPLY (R144). -/
def kindReply : Nat := 4
/-- Kind 5 NOTICE (R144). -/
def kindNotice : Nat := 5
/-- The broadcast address (R144). -/
def broadcast : Nat := 63

/-- Why a directive is refused (R146). -/
inductive Reason where
  | access | state | pinned | range | full | table | owned
  deriving DecidableEq, Repr

/-- The result of a directive (R146). -/
inductive Result where
  | done | clamped | notFound | skipped | unknown
  | refused (reason : Reason)
  deriving DecidableEq, Repr

/-- The result byte: 0 DONE, 1 CLAMPED, 2 NOT_FOUND, 3 SKIPPED, 4 UNKNOWN, 8 to 14 REFUSED (R146). -/
def resultByte : Result → Byte
  | .done => 0 | .clamped => 1 | .notFound => 2 | .skipped => 3 | .unknown => 4
  | .refused .access => 8 | .refused .state => 9 | .refused .pinned => 10 | .refused .range => 11
  | .refused .full => 12 | .refused .table => 13 | .refused .owned => 14

/-- The results that stop a directive list (R172). -/
def stops : Result → Bool
  | .refused _ => true
  | .unknown => true
  | _ => false

end Sys2Proof.Machine
end

