-- ==== Sys2Proof/Machine/State.lean ====
section
/-! DEFINITION. The state of the part as plain data, block by block, and State.reset: every field at its device reset
value. INVENTORY.md lists each field with the rule that names it. -/
namespace Sys2Proof.Machine

/-- No command of this block stops the part: the manual answers bad telegrams, bad directives and abnormal conditions
with counts, results and alarms, so nothing raises a fault (log entry 24). -/
inductive Fault : Type
  deriving DecidableEq, Repr

/-- The only refusal is a command without a meaning. -/
inductive Refusal where
  /-- Raised by exec alone, for a command that has no meaning yet; safe (the model stops). -/
  | notModelled (mnemonic : String)
  deriving DecidableEq, Repr

/-- A value of the line clock (R138). -/
structure ClockValue where
  days : Nat := 0
  hours : Nat := 0
  minutes : Nat := 0
  seconds : Nat := 0
  deriving DecidableEq, Repr

/-- One zone of a board's exposure: zone number 1 to 4, minimum and maximum temperature (R11). -/
structure Exposure where
  zone : Nat
  low : Int
  high : Int
  deriving DecidableEq, Repr

/-- The flags of a board record (R11). -/
structure BoardFlags where
  unannounced : Bool := false
  short : Bool := false
  overlength : Bool := false
  speedOut : Bool := false
  dwellOut : Bool := false
  waveInterrupted : Bool := false
  purged : Bool := false
  deriving DecidableEq, Repr

/-- A board record (R11). -/
structure BoardRecord where
  tag : Tag
  recipe : Option Row
  id : List Byte
  lead : Pos
  trail : Option Pos := none
  length : Option Nat := none
  entryTime : ClockValue
  flux : FluxState
  exposure : List Exposure := []
  waveEntry : Option Time := none
  waveTemp : Option Int := none
  dwell : Option Nat := none
  flags : BoardFlags := {}
  deriving DecidableEq, Repr

/-- An entry of the announce queue (R8). -/
structure Announce where
  row : Row
  id : List Byte
  arrival : Time
  deriving DecidableEq, Repr

/-- A pending eye candidate: the captured position and the level the eye changed to (R7). -/
structure Candidate where
  position : Pos
  blocked : Bool
  deriving DecidableEq, Repr

/-- The conveyor tracker (R27). -/
structure Tracker where
  position : Pos := 0
  residue : Nat := 0
  encA : Bool := false
  encB : Bool := false
  revDist : Nat := 0
  revResidue : Nat := 0
  speed : Nat := 0
  advances : Nat := 0
  measTimer : Nat := 0
  eyeBlocked : Bool := false
  candidate : Option Candidate := none
  announces : List Announce := []
  track : List BoardRecord := []
  nextTag : Tag := 0
  entered : BitVec 16 := 0
  exited : BitVec 16 := 0
  purged : BitVec 16 := 0
  pins : List Nat := List.replicate 32 0
  lastEntered : Option Row := none
  stallTimer : Nat := 0
  condReverse : Bool := false
  condStall : Bool := false
  condEye : Option Tag := none
  condSpeed : Option Tag := none
  deriving DecidableEq, Repr

/-- An entry of the window table (R29). -/
structure Window where
  tag : Tag
  phase : Phase := .before
  uncovered : Bool := false
  deriving DecidableEq, Repr

/-- The flux controller (R42). -/
structure Flux where
  valveOpen : Bool := false
  windows : List Window := []
  bridge : Option Tag := none
  status : PressureStatus := .none
  pressure : Option Nat := none
  mask : Bool := false
  lv : Nat := 0
  eligible : Bool := false
  sprayTotal : Nat := 0
  deriving DecidableEq, Repr

/-- The fault causes of a loop (R43). -/
structure Causes where
  fault : Bool := false
  silent : Bool := false
  overtemp : Bool := false
  latch : Bool := false
  deriving DecidableEq, Repr

/-- A loop context (R43), with the heat controller's HEAT_FAIL condition of the loop (R57). -/
structure LoopCtx where
  state : LoopState := .off
  causes : Causes := {}
  manual : Option Nat := none
  target : Nat := 0
  setpoint : Int := 0
  remainder : Nat := 0
  integrator : Nat := 0
  satHigh : Bool := false
  satLow : Bool := false
  lastComp : Option Time := none
  lastTemp : Option Int := none
  duty : Nat := 0
  inBand : Bool := false
  heatFailTimer : Nat := 0
  heatFail : Bool := false
  idleTimer : Nat := 0
  deriving DecidableEq, Repr

/-- The heat controller: loop n is entry n - 1 (R43). -/
structure Heat where
  loops : List LoopCtx := List.replicate 5 {}
  potMolten : Bool := false
  deriving DecidableEq, Repr

/-- The feed timer: elapsed time and limit; the remaining time is the limit less the elapsed time (R82). A limit of 0 never
expires (R80). -/
structure FeedTimer where
  elapsed : Nat
  limit : Nat
  deriving DecidableEq, Repr

/-- The pot controller (R76). The wave gate is OPEN exactly while there is a gate board (R86). -/
structure Pot where
  level : Option Nat := none
  condCritical : Bool := false
  condOver : Bool := false
  criticalRecord : Bool := false
  sensor : SensorStatus := .good
  potTemp : Option Int := none
  feeder : FeederState := .off
  jam : Bool := false
  failures : Nat := 0
  baseline : Option Nat := none
  feedTimer : Option FeedTimer := none
  feedDrive : Nat := 0
  gateBoard : Option Tag := none
  pump : Nat := 0
  forced : Bool := true
  manualPump : Option Nat := none
  manualFeeder : Option Nat := none
  feederCmd : Nat := 0
  refresh : Nat := 0
  deriving DecidableEq, Repr

/-- The exhaust monitor (R95). -/
structure Exhaust where
  demand : Bool := false
  runOn : Option Nat := none
  manualFan : Option Nat := none
  valveOpen : Bool := false
  srcHeater : Bool := false
  srcPump : Bool := false
  srcFeeder : Bool := false
  fan : Nat := 0
  refresh : Nat := 0
  flow : Option Nat := none
  flowSensor : SensorStatus := .none
  stage : FlowStage := .one
  flowTimer : Nat := 0
  condFlowLow : Bool := false
  condLoss : Bool := false
  /-- The expiry of stage 2 has been taken since the entry into it: the timer counts no further (R102; log entry 14). -/
  lossTaken : Bool := false
  dp : Option Nat := none
  dpSensor : SensorStatus := .none
  condLoaded : Bool := false
  deriving DecidableEq, Repr

/-- An alarm record (R109). -/
structure AlarmRecord where
  kind : AlarmKind
  source : Nat
  severity : Severity
  masked : Bool
  state : AlarmState
  count : Nat
  first : ClockValue
  last : ClockValue
  value : Option Int
  lineState : LineState
  deriving DecidableEq, Repr

/-- The alarm unit: the list oldest first, the LIST_FULL slot, and what it last published (R115, R119). -/
structure Alarm where
  records : List AlarmRecord := []
  listFull : Option AlarmRecord := none
  holding : Option Severity := none
  warn : Bool := false
  deriving DecidableEq, Repr

/-- The line controller (R125); its lines stand in Pins. -/
structure Line where
  state : LineState := .idle
  holding : Option Severity := none
  warn : Bool := false
  settle : Nat := 0
  changeover : Bool := false
  holdRecipe : Option Row := none
  admitted : Option Row := none
  second : Nat := 0
  clockRunning : Bool := false
  clock : ClockValue := {}
  deriving DecidableEq, Repr

/-- A telegram the part originates: the source is written when transmission begins (R144). -/
structure Telegram where
  dest : Nat
  kind : Nat
  payload : List Byte
  deriving DecidableEq, Repr

/-- The loop interface (R156). -/
structure Net where
  upLink : Bool := false
  downLink : Bool := false
  upSilence : Nat := 0
  downSilence : Nat := 0
  /-- The down-bound FIFO: received on UP, waiting for DOWN. -/
  downFifo : List (List Byte) := []
  /-- The up-bound FIFO: received on DOWN, waiting for UP. -/
  upFifo : List (List Byte) := []
  downUrgent : List OutFn := []
  downSlots : List (OutFn × Nat) := []
  upUrgent : List Telegram := []
  upNormal : List Telegram := []
  /-- The place in upNormal reserved for the reply of the request being executed (R152). -/
  reserved : Option Nat := none
  upFair : Nat := 0
  downFair : Nat := 0
  upTx : Option (List Byte) := none
  downTx : Option (List Byte) := none
  upBad : Nat := 0
  downBad : Nat := 0
  address : Nat := 1
  addressOpen : Bool := true
  deriving DecidableEq, Repr

/-- The filter's own state for a channel map entry (R160, R161). -/
structure EntryCtx where
  age : Nat := 0
  fault : Bool := false
  silent : Bool := false
  deriving DecidableEq, Repr

/-- The traffic filter (R169); the maps stand in Tables. -/
structure Filter where
  entries : List EntryCtx := List.replicate 32 {}
  nodeFaults : List Bool := List.replicate 8 false
  marks : List Bool := List.replicate 8 false
  deriving DecidableEq, Repr

/-- A row of the channel map (R157). -/
structure ChannelRow where
  node : Nat := 0
  channel : Nat := 0
  quantity : Quantity := .none
  gain : Int := 1024
  offset : Int := 0
  forward : Bool := true
  ageLimit : Nat := 0
  deriving DecidableEq, Repr

/-- A row of the output map (R166). -/
structure OutputRow where
  node : Nat := 0
  channel : Nat := 0
  bound : Bool := false
  deriving DecidableEq, Repr

/-- A row of the alarm policy table (R108). -/
structure PolicyRow where
  severity : Severity
  masked : Bool := false
  deriving DecidableEq, Repr

/-- A row of the station table: no address is an empty entry, stored as 255 (R177). -/
structure StationRow where
  address : Option Nat := none
  cls : StationClass := .operate
  deriving DecidableEq, Repr

/-- The seven parameter tables (R184) and the written marks of the recipe cells (R180). -/
structure Tables where
  recipe : List (List Nat) := List.replicate 32 (List.replicate 16 0)
  written : List (List Bool) := List.replicate 32 (List.replicate 16 false)
  line : List Nat := 0 :: 20 :: List.replicate 41 0
  loop : List (List Nat) := List.replicate 5 [0, 0, 0, 0, 50, 0, 0]
  channel : List ChannelRow := List.replicate 32 {}
  output : List OutputRow := List.replicate 8 {}
  policy : List PolicyRow := (alarmKinds.take 25).map fun k => { severity := defaultSeverity k }
  station : List StationRow := [{ address := some 0, cls := .service }, {}, {}, {}]
  deriving DecidableEq, Repr

/-- A set cursor (R178). -/
structure Cursor where
  table : Nat
  firstRow : Nat
  lastRow : Nat
  firstCol : Nat
  lastCol : Nat
  /-- COLUMN mode; ROW otherwise. -/
  columnMode : Bool
  row : Nat
  col : Nat
  deriving DecidableEq, Repr

/-- A status snapshot: a selector and the image of that block's values (R175). -/
structure Snapshot where
  selector : Nat
  image : List Byte
  deriving DecidableEq, Repr

/-- The loader: one cursor, snapshot and fresh-start mark per station entry (R177, R183). -/
structure Loader where
  cursors : List (Option Cursor) := List.replicate 4 none
  snapshots : List (Option Snapshot) := List.replicate 4 none
  fresh : List Bool := List.replicate 4 false
  deriving DecidableEq, Repr

/-- The lines the part drives (00_scope.md, "Direct lines"); true is asserted. -/
structure Pins where
  spray : Bool := false
  permit : Bool := false
  hold : Bool := false
  trip : Bool := false
  lampG : Lamp := .off
  lampA : Lamp := .off
  lampR : Lamp := .off
  deriving DecidableEq, Repr

/-- What the traffic filter reports to an owner about an entry: what stands after the change, and whether a fault or
silence begins with it (R163). -/
structure Report where
  fault : Bool
  silent : Bool
  begins : Bool
  deriving DecidableEq, Repr

/-- What one block hands to another as an event of its own (00_scope.md, "Events and their order"; log entry 3). -/
inductive Event where
  /-- A raise to the alarm unit (R107). -/
  | raise (kind : AlarmKind) (source : Nat) (value : Option Int)
  /-- A clear to the alarm unit (R107). -/
  | clear (kind : AlarmKind) (source : Nat)
  /-- The alarm unit's publication to the line controller (R115). -/
  | published (holding : Option Severity) (warn : Bool)
  /-- Removal of the OVERTEMP record of a loop, index n - 1, to the heat controller (R113). -/
  | overtempRemoved (loop : Nat)
  /-- Creation (true) or removal (false) of the LEVEL_CRITICAL record, to the pot controller (R113). -/
  | levelCriticalRecord (made : Bool)
  /-- Removal of the FEED_JAM record, to the pot controller (R113). -/
  | feedJamRemoved
  /-- A FEED_JAM raise that made no record, to the pot controller (R113). -/
  | feedJamDropped
  /-- A position advance, taken by the other blocks (R4, R22). -/
  | advance
  /-- A record change; appended tells the append of a record (R22, R133). -/
  | recordChange (appended : Bool)
  /-- An announce change (R22). -/
  | announceChange
  /-- A speed measurement, to the flux controller (R22). -/
  | speedMeasured
  /-- A change of a loop's in-band flag, to the line controller (R55). -/
  | inBandChanged (loop : Nat)
  /-- A change of a loop's target, to the line controller (R54). -/
  | targetChanged (loop : Nat)
  /-- A change of the pot-molten flag, to the pot and line controllers (R56, R128). -/
  | potMoltenChanged
  /-- The pot controller stored a level value, to the line controller (R128). -/
  | levelStored
  /-- The flux controller's report of the valve, to the exhaust monitor (R34). -/
  | valveReport (isOpen : Bool)
  /-- Whether any loop holds a manual duty, to the exhaust monitor (R98). -/
  | heaterReport (holds : Bool)
  /-- Whether the manual pump value is not none, to the exhaust monitor (R98). -/
  | pumpReport (holds : Bool)
  /-- Whether the FEEDER command in SERVICE is above 0, to the exhaust monitor (R98). -/
  | feederReport (holds : Bool)
  /-- A report and a converted value for the owner of a quantity (R162, R163). -/
  | delivery (quantity : Quantity) (report : Option Report) (value : Option Int)
  deriving DecidableEq, Repr

/-- The state of the part. -/
structure State where
  time : Time
  trk : Tracker
  flux : Flux
  heat : Heat
  pot : Pot
  exh : Exhaust
  alm : Alarm
  line : Line
  net : Net
  filt : Filter
  ldr : Loader
  tab : Tables
  pins : Pins
  /-- Internal events not yet taken; empty between commands (log entries 3, 4). -/
  events : List Event
  /-- The commands waiting, first in, first out (log entry 21). -/
  pending : List Instr
  deriving DecidableEq, Repr

/-- The part right after device reset with ENC_A, ENC_B low, EYE clear and the straps 1 (log entry 7), the time base at 0
(log entry 8), everything else as R27, R42, R43, R76, R95, R124, R125, R156, R169 and R183 state. -/
def State.reset : State where
  time := 0
  trk := {}
  flux := {}
  heat := {}
  pot := {}
  exh := {}
  alm := {}
  line := {}
  net := {}
  filt := {}
  ldr := {}
  tab := {}
  pins := {}
  events := []
  pending := []

end Sys2Proof.Machine
end

