-- ==== Sys2Proof/Machine/Codec.lean ====
section
/-! DEFINITION. Byte layouts: multi-byte fields most significant byte first (R144), the CRC and envelope (R144), the
alarm, board record and notice images (R147, R148). -/
namespace Sys2Proof.Machine

/-- The low n bytes of a number, most significant first (R144). -/
def be (n v : Nat) : List Byte :=
  match n with
  | 0 => []
  | n + 1 => BitVec.ofNat 8 (v / 256 ^ n) :: be n v

/-- A signed number in n bytes of two's complement, most significant first (R144). -/
def beSigned (n : Nat) (v : Int) : List Byte := be n (v % (256 ^ n : Nat)).toNat

/-- Two bytes as a number, the first the most significant (R144). -/
def word16 (hi lo : Byte) : Nat := hi.toNat * 256 + lo.toNat

/-- A 16-bit field read as signed, two's complement (R144). -/
def signed16 (n : Nat) : Int := if n < 32768 then (n : Int) else (n : Int) - 65536

/-- One bit of the CRC: generator x^16 + x^12 + x^5 + 1, most significant bit first (R144). -/
def crcBit (c : BitVec 16) : BitVec 16 := if c.msb then (c <<< 1) ^^^ 0x1021 else c <<< 1

/-- n bits of the CRC. -/
def crcBits : Nat → BitVec 16 → BitVec 16
  | 0, c => c
  | n + 1, c => crcBits n (crcBit c)

/-- The CRC over a run of bytes, initial value 0xFFFF, no final inversion (R144). -/
def crc16 (bytes : List Byte) : BitVec 16 :=
  bytes.foldl (fun c b => crcBits 8 (c ^^^ (BitVec.setWidth 16 b) <<< (8 : Nat))) 0xFFFF

/-- The start value of every telegram (R144). -/
def startByte : Byte := 0xD5

/-- The envelope around a payload (R144). -/
def frame (source dest kind : Nat) (payload : List Byte) : List Byte :=
  let body := be 1 dest ++ be 1 source ++ be 1 kind ++ be 1 payload.length ++ payload
  startByte :: (body ++ be 2 (crc16 body).toNat)

/-- A line clock value: days (two bytes), hours, minutes, seconds (R147). -/
def clockBytes (c : ClockValue) : List Byte := be 2 c.days ++ be 1 c.hours ++ be 1 c.minutes ++ be 1 c.seconds

/-- A bit of a flag byte. -/
def bitAt (b : Bool) (i : Nat) : Nat := if b then 2 ^ i else 0

/-- The four bytes of a raise value, 0 when absent (R147); a value outside the signed field is a free value (log entry 10). -/
def raiseValueBytes : Option Int → List Byte
  | none => be 4 0
  | some v =>
    if -2147483648 ≤ v ∧ v ≤ 2147483647 then beSigned 4 v else be 4 (Config.wideRaiseValue v).toNat

/-- Bits 0 and 1 severity; bit 2 masked; bits 3 and 4 state; bit 5 raise value present (R147). -/
def alarmFlagByte (r : AlarmRecord) : List Byte :=
  be 1 (severityNum r.severity + bitAt r.masked 2 + 8 * alarmStateNum r.state + bitAt r.value.isSome 5)

/-- An alarm record's full image, 20 bytes (R147). -/
def alarmImage (r : AlarmRecord) : List Byte :=
  be 1 (alarmKindNum r.kind) ++ be 2 r.source ++ alarmFlagByte r ++ be 1 (lineStateNum r.lineState) ++ be 1 r.count ++
    clockBytes r.first ++ clockBytes r.last ++ raiseValueBytes r.value

/-- The short form in alarm notices, 14 bytes (R147). -/
def alarmShortImage (r : AlarmRecord) : List Byte :=
  be 1 (alarmKindNum r.kind) ++ be 2 r.source ++ alarmFlagByte r ++ be 1 r.count ++ clockBytes r.last ++
    raiseValueBytes r.value

/-- Bits 0 to 4 recipe row; bit 5 recipe present; bit 6 trail present; bit 7 wave entry time present (R148). Without a recipe
bits 0 to 4 are sent as 0: DESIGN CHOICE (log entry 41), unsafe. -/
def boardByteRecipe (r : BoardRecord) : Nat :=
  ((r.recipe.map fun row => row.val).getD 0) + bitAt r.recipe.isSome 5 + bitAt r.trail.isSome 6 +
    bitAt r.waveEntry.isSome 7

/-- Bits 0 to 6 the flags in their order; bit 7 dwell present (R148). -/
def boardByteFlags (r : BoardRecord) : Nat :=
  bitAt r.flags.unannounced 0 + bitAt r.flags.short 1 + bitAt r.flags.overlength 2 + bitAt r.flags.speedOut 3 +
    bitAt r.flags.dwellOut 4 + bitAt r.flags.waveInterrupted 5 + bitAt r.flags.purged 6 + bitAt r.dwell.isSome 7

/-- The exposure entry of a zone number, if the record has one. -/
def exposureOf (r : BoardRecord) (zone : Nat) : Option Exposure := r.exposure.find? fun e => e.zone == zone

/-- Bits 0 to 2 flux state; bits 3 to 6 exposure present for zones 1 to 4; bit 7 pot temperature present (R148). -/
def boardByteFlux (r : BoardRecord) : Nat :=
  fluxStateNum r.flux + bitAt (exposureOf r 1).isSome 3 + bitAt (exposureOf r 2).isSome 4 +
    bitAt (exposureOf r 3).isSome 5 + bitAt (exposureOf r 4).isSome 6 + bitAt r.waveTemp.isSome 7

/-- The bytes of an optional field, none when absent. -/
def optBytes {α : Type} (f : α → List Byte) : Option α → List Byte
  | none => []
  | some a => f a

/-- The board record image (R148): 14 fixed bytes and the optional fields in their order. -/
def boardImage (r : BoardRecord) : List Byte :=
  be 2 r.tag.toNat ++ be 1 (boardByteRecipe r) ++ be 1 (boardByteFlags r) ++ be 1 (boardByteFlux r) ++
    be 1 r.id.length ++ be 3 r.lead.toNat ++ clockBytes r.entryTime ++
    optBytes (fun p => be 3 p.toNat) r.trail ++
    optBytes (fun t => be 4 t.toNat) r.waveEntry ++
    optBytes (fun t => beSigned 2 t) r.waveTemp ++
    optBytes (fun d => be 2 (min d 65535)) r.dwell ++
    ([1, 2, 3, 4].map fun z => optBytes (fun e => beSigned 2 e.low ++ beSigned 2 e.high) (exposureOf r z)).flatten ++
    r.id

/-- A NOTICE: broadcast, the notice code first (R147). -/
def notice (code : Nat) (body : List Byte) : Telegram :=
  { dest := broadcast, kind := kindNotice, payload := be 1 code ++ body }

/-- ALARM_RAISED (R147). -/
def noticeRaised (r : AlarmRecord) : Telegram := notice 1 (alarmShortImage r)
/-- ALARM_CLEARED (R147). -/
def noticeCleared (r : AlarmRecord) : Telegram := notice 2 (alarmShortImage r)
/-- BOARD_EXIT (R147). -/
def noticeBoardExit (r : BoardRecord) : Telegram := notice 3 (boardImage r)
/-- LINE_STATE: previous state, new state, cause, line clock (R147). -/
def noticeLineState (old new : LineState) (cause : LineCause) (c : ClockValue) : Telegram :=
  notice 4 (be 1 (lineStateNum old) ++ be 1 (lineStateNum new) ++ be 1 (lineCauseNum cause) ++ clockBytes c)

/-- A REPLY (R146). -/
def replyTelegram (dest : Nat) (payload : List Byte) : Telegram := { dest, kind := kindReply, payload }

end Sys2Proof.Machine
end

