-- ==== Sys2Proof/Machine/Ops.lean ====
section
/-! DEFINITION. The named operations every block uses: posting an internal event, the parameters read from the tables, the
records of the track queue, the originate queues and the transmit arbiters (R151, R152, R153). -/
namespace Sys2Proof.Machine

/-- Post an internal event at the tail of the mailbox (log entry 3). -/
def State.post (s : State) (e : Event) : State := { s with events := s.events ++ [e] }

/-- Report a raise to the alarm unit (R107). -/
def State.raise (s : State) (kind : AlarmKind) (source : Nat) (value : Option Int) : State :=
  s.post (.raise kind source value)

/-- Report a clear to the alarm unit (R107). -/
def State.clear (s : State) (kind : AlarmKind) (source : Nat) : State := s.post (.clear kind source)

/-- A clear if the condition was present (R107). -/
def State.clearIf (s : State) (present : Bool) (kind : AlarmKind) (source : Nat) : State :=
  if present then s.clear kind source else s

/-! Arithmetic. -/

/-- The forward distance from an earlier to a later position (R1). -/
def dist (later earlier : Pos) : Nat := (later - earlier).toNat

/-- The interval from an earlier to a later time base value (R2). -/
def interval (later earlier : Time) : Nat := (later - earlier).toNat

/-- Clamp a number to a range. -/
def clampInt (lo hi v : Int) : Int := max lo (min hi v)

/-- Add one, stopping at a limit. -/
def satSucc (limit n : Nat) : Nat := if n < limit then n + 1 else limit

/-- Divide by 1024, rounding half away from zero (R159). -/
def div1024 (v : Int) : Int :=
  if 0 ≤ v then ((v.natAbs + 512) / 1024 : Nat) else -((v.natAbs + 512) / 1024 : Nat)

/-! Parameters (R185, R186, R187). A column is read as its table holds it. -/

/-- Line table column Ln (R186). -/
def State.L (s : State) (n : Nat) : Nat := s.tab.line.getD n 0
/-- Loop table column Kn of the loop with index i (R187). -/
def State.K (s : State) (i n : Nat) : Nat := (s.tab.loop.getD i []).getD n 0
/-- Recipe column Pn of a row (R185). -/
def State.P (s : State) (row : Row) (n : Nat) : Nat := (s.tab.recipe.getD row.val []).getD n 0

/-- The scaler: L0, taken as 1 while it holds 0 (R4). -/
def State.scaler (s : State) : Nat := if s.L 0 = 0 then 1 else s.L 0
/-- L1 (R7). -/
def State.debounce (s : State) : Nat := s.L 1
/-- L2 (R30). -/
def State.nozzle (s : State) : Nat := s.L 2
/-- L3 (R30). -/
def State.valveLead (s : State) : Nat := s.L 3
/-- The start of zone z, index z - 1: L4 to L7 (R17). -/
def State.zoneStart (s : State) (i : Nat) : Nat := s.L (4 + i)
/-- The end of zone z, index z - 1: L8 to L11 (R17). -/
def State.zoneEnd (s : State) (i : Nat) : Nat := s.L (8 + i)
/-- L12 (R86). -/
def State.wavePosition (s : State) : Nat := s.L 12
/-- L13 (R16). -/
def State.exitPosition (s : State) : Nat := s.L 13
/-- L14 (R52). -/
def State.lookahead (s : State) : Nat := s.L 14
/-- L15 (R14). -/
def State.minLength (s : State) : Nat := s.L 15
/-- L16 (R131). -/
def State.entryGap (s : State) : Nat := s.L 16
/-- L17 (R13). -/
def State.unannouncedPolicy (s : State) : Nat := s.L 17
/-- The setback of zone z, index z - 1: L18 to L21 (R53). -/
def State.setback (s : State) (i : Nat) : Nat := s.L (18 + i)
/-- L22 × 1000 ms (R53). -/
def State.idleDelayMs (s : State) : Nat := s.L 22 * 1000
/-- L23 (R51). -/
def State.potSetpoint (s : State) : Nat := s.L 23
/-- L24 × 1000 ms (R128). -/
def State.settleMs (s : State) : Nat := s.L 24 * 1000
/-- L25 (R19). -/
def State.eyeBlockedDistance (s : State) : Nat := s.L 25
/-- L26 × 1000 ms (R57). -/
def State.heatFailMs (s : State) : Nat := s.L 26 * 1000
/-- L27 (R80). -/
def State.levelLow (s : State) : Nat := s.L 27
/-- L28 (R81). -/
def State.levelHigh (s : State) : Nat := s.L 28
/-- L29 (R77). -/
def State.levelCritical (s : State) : Nat := s.L 29
/-- L30 (R77). -/
def State.levelOverflow (s : State) : Nat := s.L 30
/-- L31 (R80). -/
def State.feedNormal (s : State) : Nat := s.L 31
/-- L32 (R80). -/
def State.feedSlow (s : State) : Nat := s.L 32
/-- L33 × 1000 ms (R80). -/
def State.feedTimeoutMs (s : State) : Nat := s.L 33 * 1000
/-- L34 (R82). -/
def State.minRise (s : State) : Nat := s.L 34
/-- L35 (R87). -/
def State.standbyDuty (s : State) : Nat := s.L 35
/-- L36 (R100). -/
def State.flowMin (s : State) : Nat := s.L 36
/-- L37 × 1000 ms (R102). -/
def State.flowLowMs (s : State) : Nat := s.L 37 * 1000
/-- L38 × 1000 ms (R97). -/
def State.runOnMs (s : State) : Nat := s.L 38 * 1000
/-- L39 (R103). -/
def State.dpMax (s : State) : Nat := s.L 39
/-- L40 (R38). -/
def State.pressureMin (s : State) : Nat := s.L 40
/-- L41 × 1000 ms (R20). -/
def State.stallMs (s : State) : Nat := s.L 41 * 1000
/-- L42 (R5). -/
def State.reverseLimit (s : State) : Nat := s.L 42

/-- A recipe row is DEFINED: each of its 16 cells has been written since device reset (R180). -/
def State.rowDefined (s : State) (row : Row) : Bool :=
  (s.tab.written.getD row.val [false]).all (fun w => w)

/-- The policy row of a kind (R108). -/
def State.policyOf (s : State) (k : AlarmKind) : PolicyRow :=
  s.tab.policy.getD (alarmKindNum k - 1) { severity := defaultSeverity k }

/-! Records of the track queue. -/

/-- The record with a tag. -/
def State.recordOf (s : State) (t : Tag) : Option BoardRecord := s.trk.track.find? fun r => r.tag == t

/-- A record's lead distance (R1). -/
def State.leadDist (s : State) (r : BoardRecord) : Nat := dist s.trk.position r.lead

/-- The trail distance is known and at least d (R1). -/
def State.trailAtLeast (s : State) (r : BoardRecord) (d : Nat) : Bool :=
  match r.trail with
  | none => false
  | some p => d ≤ dist s.trk.position p

/-- Replace the records of the track queue one by one. -/
def State.mapTrack (s : State) (f : BoardRecord → BoardRecord) : State :=
  { s with trk.track := s.trk.track.map f }

/-- Take one from a row's pin count (R15). -/
def unpin (pins : List Nat) (recipe : Option Row) : List Nat :=
  match recipe with
  | none => pins
  | some row => pins.set row.val (pins.getD row.val 0 - 1)

/-- Add one to a row's pin count (R15). -/
def pin (pins : List Nat) (recipe : Option Row) : List Nat :=
  match recipe with
  | none => pins
  | some row => pins.set row.val (pins.getD row.val 0 + 1)

/-! The output map and the marks (R166, R168). -/

/-- The output map row of a function. -/
def State.outputRow (s : State) (f : OutFn) : OutputRow := s.tab.output.getD (outFnNum f) {}

/-- The function is marked manual by telegram (R168). -/
def State.marked (s : State) (f : OutFn) : Bool := s.filt.marks.getD (outFnNum f) false

/-- A command for the function may be offered and sent: bound and not marked (R58, R88, R99, R151). -/
def State.sendable (s : State) (f : OutFn) : Bool := (s.outputRow f).bound && !s.marked f

/-- The OUTPUT telegram of a function, built at its grant: one pair of channel and value, to the function's node (R145). -/
def State.outputRun (s : State) (f : OutFn) (v : Nat) : List Byte :=
  frame s.net.address (s.outputRow f).node kindOutput (be 1 (s.outputRow f).channel ++ be 2 v)

/-- The bytes of an originated telegram, the station address as it stands as source (R144). -/
def State.telegramRun (s : State) (t : Telegram) : List Byte := frame s.net.address t.dest t.kind t.payload

/-! The transmit arbiters (R153). -/

/-- Grant the oldest filled DOWN slot, which sets the fairness count to 0; the Bool says whether it was sent (R151, R153). -/
def grantSlot (s : State) (f : OutFn) (v : Nat) (rest : List (OutFn × Nat)) : State × Bool :=
  let s1 := { s with net.downSlots := rest, net.downFair := 0 }
  if s.sendable f then ({ s1 with net.downTx := some (s.outputRun f v) }, true) else (s1, false)

/-- The DOWN arbiter: the first row of R153 that applies. An entry whose function is unbound or marked is removed at its
grant without being sent (R151), and the arbiter goes on (log entry 16); the first argument bounds the removals. -/
def arbitrateDown : Nat → State → State
  | 0, s => s
  | n + 1, s =>
    match s.net.downUrgent with
    | f :: rest =>
      let s1 := { s with net.downUrgent := rest }
      if s.sendable f then { s1 with net.downTx := some (s.outputRun f 0) } else arbitrateDown n s1
    | [] =>
      match s.net.downSlots, decide (Config.fairnessLimit ≤ s.net.downFair), s.net.downFifo with
      | (f, v) :: rest, true, _ =>
        match grantSlot s f v rest with
        | (s1, true) => s1
        | (s1, false) => arbitrateDown n s1
      | [], _, t :: fifo => { s with net.downFifo := fifo, net.downTx := some t }
      | _ :: _, false, t :: fifo =>
        { s with net.downFifo := fifo, net.downTx := some t, net.downFair := s.net.downFair + 1 }
      | (f, v) :: rest, false, [] =>
        match grantSlot s f v rest with
        | (s1, true) => s1
        | (s1, false) => arbitrateDown n s1
      | [], _, [] => s

/-- The head of the UP normal queue, unless the reserved place stands before it (R152). -/
def State.upNormalHead (s : State) : Option Telegram :=
  if s.net.reserved = some 0 then none else s.net.upNormal.head?

/-- Grant the UP normal queue's oldest, which sets the fairness count to 0 (R153). -/
def grantUpNormal (s : State) (t : Telegram) : State :=
  { s with
    net.upNormal := s.net.upNormal.tail
    net.reserved := s.net.reserved.map (fun p => p - 1)
    net.upFair := 0
    net.upTx := some (s.telegramRun t) }

/-- The UP arbiter: the first row of R153 that applies. -/
def arbitrateUp (s : State) : State :=
  match s.net.upUrgent with
  | t :: rest => { s with net.upUrgent := rest, net.upTx := some (s.telegramRun t) }
  | [] =>
    match s.upNormalHead, decide (Config.fairnessLimit ≤ s.net.upFair), s.net.upFifo with
    | some t, true, _ => grantUpNormal s t
    | none, _, run :: fifo => { s with net.upFifo := fifo, net.upTx := some run }
    | some _, false, run :: fifo =>
      { s with net.upFifo := fifo, net.upTx := some run, net.upFair := s.net.upFair + 1 }
    | some t, false, [] => grantUpNormal s t
    | none, _, [] => s

/-- The grant at the moment a telegram becomes available to an idle DOWN transmitter (R153). -/
def State.wakeDown (s : State) : State :=
  match s.net.downTx with
  | some _ => s
  | none => arbitrateDown (s.net.downUrgent.length + s.net.downSlots.length + 1) s

/-- The grant at the moment a telegram becomes available to an idle UP transmitter (R153). -/
def State.wakeUp (s : State) : State :=
  match s.net.upTx with
  | some _ => s
  | none => arbitrateUp s

/-! Offers to the originate queues (R151, R152). -/

/-- The fairness count after a normal queue changed: it is 0 once the queue is empty (R153). -/
def fairAfter (slots : List (OutFn × Nat)) (fair : Nat) : Nat := if slots.isEmpty then 0 else fair

/-- An urgent zero: at most one entry per function, and the function's normal slot is emptied either way (R151). -/
def State.offerUrgentZero (s : State) (f : OutFn) : State :=
  let slots := s.net.downSlots.filter fun p => p.1 != f
  State.wakeDown { s with
    net.downUrgent := if s.net.downUrgent.contains f then s.net.downUrgent else s.net.downUrgent ++ [f]
    net.downSlots := slots
    net.downFair := fairAfter slots s.net.downFair }

/-- Fill a function's normal slot at the tail, or replace the value it holds in place (R151). -/
def fillSlot (slots : List (OutFn × Nat)) (f : OutFn) (v : Nat) : List (OutFn × Nat) :=
  if slots.any fun p => p.1 == f then slots.map fun p => if p.1 == f then (f, v) else p else slots ++ [(f, v)]

/-- Offer a value to a function's normal slot (R151). -/
def State.offerSlot (s : State) (f : OutFn) (v : Nat) : State :=
  State.wakeDown { s with net.downSlots := fillSlot s.net.downSlots f v }

/-- Offer a command of 0 for a function to the urgent queue: nothing for an unbound or marked function (R58, R88, R99). -/
def State.commandZero (s : State) (f : OutFn) : State := if s.sendable f then s.offerUrgentZero f else s

/-- Offer a command value for a function's normal slot: nothing for an unbound or marked function (R58, R88, R99). -/
def State.commandValue (s : State) (f : OutFn) (v : Nat) : State := if s.sendable f then s.offerSlot f v else s

/-- The places taken in the UP normal queue, the reserved one included (R152, R155). -/
def State.upNormalOccupancy (s : State) : Nat := s.net.upNormal.length + (if s.net.reserved.isSome then 1 else 0)

/-- Offer a telegram to the UP normal queue: discarded while the link is DOWN (R143); discarded with LINK_OVERRUN when the
queue is full (R152). -/
def State.offerUpNormal (s : State) (t : Telegram) : State :=
  if !s.net.upLink then s
  else if Config.upNormalCapacity ≤ s.upNormalOccupancy then s.raise .linkOverrun 0 none
  else State.wakeUp { s with net.upNormal := s.net.upNormal ++ [t] }

/-- Offer a DRAIN or STOP notice to the UP urgent queue; to the normal queue when the urgent queue is full (R152). -/
def State.offerUpUrgent (s : State) (t : Telegram) : State :=
  if !s.net.upLink then s
  else if Config.upUrgentCapacity ≤ s.net.upUrgent.length then s.offerUpNormal t
  else State.wakeUp { s with net.upUrgent := s.net.upUrgent ++ [t] }

/-- A telegram forwarded to the other port's FIFO, byte for byte; dropped with LINK_OVERRUN when the FIFO holds 4 (R150). -/
def State.forward (s : State) (arrived : Port) (run : List Byte) : State :=
  match arrived with
  | .up =>
    if Config.fifoCapacity ≤ s.net.downFifo.length then s.raise .linkOverrun 0 none
    else State.wakeDown { s with net.downFifo := s.net.downFifo ++ [run] }
  | .down =>
    if Config.fifoCapacity ≤ s.net.upFifo.length then s.raise .linkOverrun 1 none
    else State.wakeUp { s with net.upFifo := s.net.upFifo ++ [run] }

end Sys2Proof.Machine
end

