-- ==== Sys2Proof/Machine/Link.lean ====
section
/-! DEFINITION. The loop interface's links (R142, R143), bad telegrams (R144) and telegram boundaries (R153). -/
namespace Sys2Proof.Machine

/-- A port has heard idle fill or a good telegram: its silence timer restarts, and a DOWN link becomes UP, which clears the
link-lost condition (R142, R143; log entry 31). -/
def linkHeard (p : Port) (s : State) : State :=
  match p with
  | .up =>
    if s.net.upLink then { s with net.upSilence := 0 }
    else State.clear { s with net.upLink := true, net.upSilence := 0 } .supervisorLinkLost 0
  | .down =>
    if s.net.downLink then { s with net.downSilence := 0 }
    else State.clear { s with net.downLink := true, net.downSilence := 0 } .fieldLinkLost 0

/-- The link state of a port (R142). -/
def State.linkUp (s : State) (p : Port) : Bool :=
  match p with
  | .up => s.net.upLink
  | .down => s.net.downLink

/-- A port's link becomes DOWN: the UP port empties both its originate queues; the alarm is raised (R143). -/
def linkLost (p : Port) (s : State) : State :=
  match p with
  | .up =>
    State.raise { s with
      net.upLink := false, net.upSilence := Config.silenceLimit, net.upUrgent := [], net.upNormal := [], net.upFair := 0 }
      .supervisorLinkLost 0 none
  | .down =>
    State.raise { s with net.downLink := false, net.downSilence := Config.silenceLimit } .fieldLinkLost 0 none

/-- A bad telegram: discarded and counted (R144). -/
def badTelegram (p : Port) (s : State) : State :=
  match p with
  | .up => { s with net.upBad := satSucc 65535 s.net.upBad }
  | .down => { s with net.downBad := satSucc 65535 s.net.downBad }

/-- A telegram boundary at a port: the transmission and its idle gap end, and the arbiter grants (R153). -/
def boundary (p : Port) (s : State) : State :=
  match p with
  | .up => State.wakeUp { s with net.upTx := none }
  | .down => State.wakeDown { s with net.downTx := none }

end Sys2Proof.Machine
end

