-- ==== Sys2Proof/Machine/Flags.lean ====
section
/-! DEFINITION. The flags and conditions the blocks derive from the state: zone presence, governing board, eligibility, in-band
and heat-fail tests, flow band, settle condition, permit, lamps, holding severity. -/
namespace Sys2Proof.Machine

/-- A record is present in zone z, index z - 1 (R17). -/
def State.presentInZone (s : State) (i : Nat) (r : BoardRecord) : Bool :=
  decide (s.zoneStart i ≤ s.leadDist r) && !s.trailAtLeast r (s.zoneEnd i)

/-! Fluxing. -/

/-- The spray is eligible (R33). -/
def State.sprayEligible (s : State) : Bool :=
  (s.line.state == .ready || s.line.state == .drain) &&
    (s.flux.status == .normal || (s.flux.status == .low && s.flux.mask))

/-- The opening threshold of a recipe row (R30). -/
def State.openingThreshold (s : State) (row : Row) : Nat := ((s.nozzle : Int) - s.P row 3 - s.flux.lv).toNat

/-- The closing threshold of a recipe row (R30). -/
def State.closingThreshold (s : State) (row : Row) : Nat := ((s.nozzle : Int) + s.P row 4 - s.flux.lv).toNat

/-! Heater loops; loop n has index n - 1. -/

/-- The context of a loop. -/
def State.loopCtx (s : State) (i : Nat) : LoopCtx := s.heat.loops.getD i {}

/-- The line calls for heat on a loop (R44). -/
def callsForHeat (st : LineState) (i : Nat) : Bool :=
  match st with
  | .idle | .service => false
  | .warmup | .ready | .drain => true
  | .stopped => i == 4

/-- The fault cause set is not empty (R45). -/
def Causes.any (c : Causes) : Bool := c.fault || c.silent || c.overtemp || c.latch

/-- The state of a loop: the first row of R45 whose condition holds. -/
def State.derivedLoopState (s : State) (i : Nat) : LoopState :=
  if s.K i 5 = 0 then .off
  else if (s.loopCtx i).causes.any then .fault
  else if (s.loopCtx i).manual.isSome then .manual
  else if callsForHeat s.line.state i then .active
  else .off

/-- The governing board of a zone: the oldest record with a recipe that is in the zone or within the lookahead of it (R52). -/
def State.governing (s : State) (i : Nat) : Option BoardRecord :=
  s.trk.track.find? fun r =>
    r.recipe.isSome && decide (s.zoneStart i - s.lookahead ≤ s.leadDist r) && !s.trailAtLeast r (s.zoneEnd i)

/-- No governing board, and the announce queue empty (R53). -/
def State.zoneFree (s : State) (i : Nat) : Bool := (s.governing i).isNone && s.trk.announces.isEmpty

/-- The condition under which a zone's idle timer counts (R53). -/
def State.idleCounts (s : State) (i : Nat) : Bool := (s.loopCtx i).state == .active && s.zoneFree i

/-- The idle timer has expired and stays at its limit (R53). -/
def State.idleExpired (s : State) (i : Nat) : Bool :=
  s.idleCounts i && decide (0 < s.idleDelayMs ∧ s.idleDelayMs ≤ (s.loopCtx i).idleTimer)

/-- The last temperature is present and within K4 of the target (R55). -/
def withinBand (c : LoopCtx) (band : Nat) : Bool :=
  match c.lastTemp with
  | none => false
  | some t => decide (-(band : Int) ≤ t - c.target ∧ t - c.target ≤ band)

/-- A loop is in band (R55). -/
def State.inBandNow (s : State) (i : Nat) : Bool :=
  let c := s.loopCtx i
  c.state == .active && decide (c.setpoint = c.target) && withinBand c (s.K i 4)

/-- The condition under which a loop's heat-fail timer counts (R57). -/
def State.heatFailCounts (s : State) (i : Nat) : Bool :=
  let c := s.loopCtx i
  c.state == .active && decide (c.duty = s.K i 2) &&
    (match c.lastTemp with
     | none => false
     | some t => decide (t < (c.target : Int) - s.K i 4)) &&
    decide (0 < s.heatFailMs)

/-! Pot. -/

/-- The off causes of the feeder (R79). -/
def State.feederOffCause (s : State) : Bool :=
  (s.line.state == .idle || s.line.state == .stopped || s.line.state == .service) ||
    (s.pot.sensor == .fault || s.pot.sensor == .silent)

/-- The wave gate is OPEN (R86). -/
def State.gateOpen (s : State) : Bool := s.pot.gateBoard.isSome

/-- The gate board: the oldest record with a recipe within its wave lead and tail of the wave (R86). -/
def State.gateRecord (s : State) : Option BoardRecord :=
  s.trk.track.find? fun r =>
    match r.recipe with
    | none => false
    | some row => decide (s.wavePosition - s.P row 12 ≤ s.leadDist r) && !s.trailAtLeast r (s.wavePosition + s.P row 13)

/-- A record in contact with the wave: an entry time and no dwell (R89, R91). -/
def inContact (r : BoardRecord) : Bool := r.waveEntry.isSome && r.dwell.isNone

/-- The pump command and whether it is forced: the first row of R87 whose condition holds. -/
def State.derivedPump (s : State) : Nat × Bool :=
  if s.pot.condCritical || s.pot.criticalRecord then (0, true)
  else if s.line.state = .service then (s.pot.manualPump.getD 0, false)
  else if s.line.state = .idle ∨ s.line.state = .stopped then (0, true)
  else if !s.heat.potMolten then (0, true)
  else
    match s.pot.gateBoard.bind fun t => (s.recordOf t).bind fun r => r.recipe with
    | some row => (s.P row 11, false)
    | none => (s.standbyDuty, false)

/-- The FEEDER command: the feeder drive outside SERVICE; in SERVICE the manual value, 0 while LEVEL_OVER is present (R92). -/
def State.derivedFeeder (s : State) : Nat :=
  if s.line.state = .service then (if s.pot.condOver then 0 else s.pot.manualFeeder.getD 0) else s.pot.feedDrive

/-! Exhaust. -/

/-- The line state source of fan demand (R96). -/
def lineDemandsFan (st : LineState) : Bool := st == .warmup || st == .ready || st == .drain || st == .stopped

/-- The manual source of fan demand (R96). -/
def State.manualDemandsFan (s : State) : Bool :=
  s.line.state == .service && (s.exh.manualFan.isSome || s.exh.srcHeater || s.exh.srcPump || s.exh.srcFeeder)

/-- Fan demand (R96). -/
def State.derivedDemand (s : State) : Bool :=
  lineDemandsFan s.line.state || s.exh.runOn.isSome || s.exh.valveOpen || s.manualDemandsFan

/-- The fan command (R99). -/
def State.derivedFan (s : State) : Nat :=
  if !s.exh.demand then 0
  else if s.line.state = .service then s.exh.manualFan.getD 1000
  else 1000

/-- The recovery level: the flow minimum plus the flow minimum div 20 (06, 6.1). -/
def State.recoveryLevel (s : State) : Nat := s.flowMin + s.flowMin / 20

/-- The band of the exhaust flow (R100). -/
def State.flowBand (s : State) : FlowBand :=
  match s.exh.flowSensor, s.exh.flow with
  | .good, some v => if v < s.flowMin then .low else if v < s.recoveryLevel then .margin else .recovered
  | _, _ => .low

/-- The flow-low timer counts and can expire: demand ON, band LOW, the supervision enabled, and the expiry of stage 2 not yet
taken (R101, R102). A limit raised after that expiry does not set the timer going again: DESIGN CHOICE (log entry 38), unsafe. -/
def State.flowCounts (s : State) : Bool :=
  s.exh.demand && s.flowBand == .low && decide (0 < s.flowLowMs) && !s.exh.lossTaken

/-! Alarms and line. -/

/-- The record holds a severity (R115). -/
def holdsSeverity (r : AlarmRecord) : Bool := !r.masked

/-- The alarm records that hold, LIST_FULL included (R115). -/
def Alarm.holders (a : Alarm) : List AlarmRecord := (a.records ++ a.listFull.toList).filter holdsSeverity

/-- The higher of two severities (R121). -/
def maxSeverity (a b : Severity) : Severity := if severityNum a < severityNum b then b else a

/-- The highest severity of a list of records, or none (R115). -/
def highestSeverity : List AlarmRecord → Option Severity
  | [] => none
  | r :: rest =>
    match highestSeverity rest with
    | none => some r.severity
    | some sv => some (maxSeverity r.severity sv)

/-- The holding severity (R115). -/
def Alarm.holdingNow (a : Alarm) : Option Severity := highestSeverity a.holders

/-- Whether any record of severity WARN holds (R115). -/
def Alarm.warnNow (a : Alarm) : Bool := a.holders.any fun r => r.severity == .warn

/-- The holding severity is below DRAIN, or none (R127, R128). -/
def belowDrain (h : Option Severity) : Bool :=
  match h with
  | none | some .note | some .warn => true
  | some .drain | some .stop => false

/-- The settle condition of WARMUP (R128). -/
def State.settleHolds (s : State) : Bool :=
  s.line.state == .warmup &&
    ((List.range 5).all fun i => s.K i 5 == 0 || (s.loopCtx i).inBand) &&
    s.heat.potMolten &&
    (match s.pot.level with
     | none => false
     | some v => decide (s.levelLow < v)) &&
    belowDrain s.line.holding

/-- The entry gap behind the newest record is open (R131). -/
def State.gapOpen (s : State) : Bool :=
  match s.trk.track.getLast? with
  | none => true
  | some r => s.trailAtLeast r s.entryGap

/-- The entry permit (R131). -/
def State.permitNow (s : State) : Bool :=
  s.line.state == .ready && decide (s.trk.track.length < Config.trackCapacity) && s.gapOpen && !s.line.changeover

/-- The prospective recipe (R132). -/
def State.prospective (s : State) : Option Row :=
  match s.trk.announces with
  | a :: _ => some a.row
  | [] => if s.unannouncedPolicy = 0 ∧ s.rowDefined 0 then some 0 else none

/-- The first part of the release condition: no record untrailed or short of zone 4's end (R133). -/
def State.zonesClear (s : State) : Bool := s.trk.track.all fun r => s.trailAtLeast r (s.zoneEnd 3)

/-- The second part: every enabled zone loop in band, and at the head announce's target when P comes from it (R133). -/
def State.zonesReady (s : State) (p : Row) : Bool :=
  (List.range 4).all fun i =>
    s.K i 5 == 0 ||
      ((s.loopCtx i).inBand && (s.trk.announces.isEmpty || (s.loopCtx i).target == s.P p (6 + i)))

/-- LAMP_G (R135). -/
def lampGreen (st : LineState) : Lamp :=
  match st with
  | .ready => .steady | .warmup => .blinking | _ => .off

/-- LAMP_A (R135). -/
def lampAmber (st : LineState) (warn : Bool) : Lamp := if st = .drain then .blinking else if warn then .steady else .off

/-- LAMP_R (R135). -/
def lampRed (st : LineState) (h : Option Severity) : Lamp :=
  if st = .stopped then .steady else if st = .idle ∧ h = some .stop then .blinking else .off

/-- Whether a lamp is on at this moment: a blinking lamp for the first 500 ms after each second timer expiry (R135). Between
device reset and the first expiry the reset counts as one: DESIGN CHOICE (log entry 40), unsafe. -/
def State.lampOn (s : State) (l : Lamp) : Bool :=
  match l with
  | .off => false
  | .steady => true
  | .blinking => decide (s.line.second < 500)

end Sys2Proof.Machine
end

