-- ==== Sys2Proof/Machine/Alarm.lean ====
section
/-! DEFINITION. The alarm unit: the record lifecycle (R110 to R114), holding and TRIP (R115, R116), notices (R117), capacity,
eviction and LIST_FULL (R119 to R121), acknowledgement (R122). -/
namespace Sys2Proof.Machine

/-- A pair of kind and source names the record (R107). -/
def AlarmRecord.isFor (r : AlarmRecord) (k : AlarmKind) (src : Nat) : Bool := r.kind == k && r.source == src

/-- The record for a pair, if the list holds one (R107). -/
def State.alarmFor (s : State) (k : AlarmKind) (src : Nat) : Option AlarmRecord :=
  if k = .listFull then (s.alm.listFull.filter fun r => r.source == src) else s.alm.records.find? fun r => r.isFor k src

/-- Offer an alarm notice: DRAIN and STOP to the UP urgent queue, others to the normal queue; none for a masked record (R117). -/
def offerAlarmNotice (r : AlarmRecord) (t : Telegram) (s : State) : State :=
  if r.masked then s
  else
    match r.severity with
    | .drain | .stop => s.offerUpUrgent t
    | .note | .warn => s.offerUpNormal t

/-- Evaluate the holding severity and WARN holding, publish them when either has changed, and set TRIP (R115, R116, R118). -/
def evaluateHolding (s : State) : State :=
  let h := s.alm.holdingNow
  let w := s.alm.warnNow
  let s1 := { s with alm.holding := h, alm.warn := w, pins.trip := decide (h = some .stop) }
  if h = s.alm.holding ∧ w = s.alm.warn then s1 else s1.post (.published h w)

/-- What an owner is told when a record leaves the list (R113). -/
def removalReport (r : AlarmRecord) (s : State) : State :=
  match r.kind with
  | .overtemp => s.post (.overtempRemoved (r.source - 1))
  | .levelCritical => s.post (.levelCriticalRecord false)
  | .feedJam => s.post .feedJamRemoved
  | _ => s

/-- The LIST_FULL condition clears once the list holds 20 or fewer records: ACTIVE enters CLEARED with its notice, ACKED is
removed (R121). -/
def testListFull (s : State) : State :=
  if Config.listFullLevel < s.alm.records.length then s
  else
    match s.alm.listFull with
    | none => s
    | some r =>
      match r.state with
      | .active =>
        let r1 := { r with state := .cleared }
        offerAlarmNotice r1 (noticeCleared r1) { s with alm.listFull := some r1 }
      | .acked => { s with alm.listFull := none }
      | .cleared => s

/-- Take a record of kinds 1 to 25 out of the list and close the gap; the LIST_FULL test follows (R109, R121). -/
def removeRecord (r : AlarmRecord) (s : State) : State :=
  testListFull { s with alm.records := s.alm.records.filter fun x => !x.isFor r.kind r.source }

/-- Replace a record where it stands (R109). -/
def replaceRecord (r : AlarmRecord) (s : State) : State :=
  { s with alm.records := s.alm.records.map fun x => if x.isFor r.kind r.source then r else x }

/-- The record a raise creates: ACTIVE for a condition kind and FEED_JAM, CLEARED for a momentary kind (R109, R110). -/
def newRecord (k : AlarmKind) (src : Nat) (v : Option Int) (s : State) : AlarmRecord :=
  { kind := k, source := src, severity := (s.policyOf k).severity, masked := (s.policyOf k).masked
    state := if momentary k then .cleared else .active
    count := 1, first := s.line.clock, last := s.line.clock, value := v, lineState := s.line.state }

/-- The record a raise updates (R109, R110). -/
def raisedRecord (r : AlarmRecord) (v : Option Int) (s : State) : AlarmRecord :=
  { r with
    severity := (s.policyOf r.kind).severity, masked := (s.policyOf r.kind).masked
    state := if momentary r.kind then r.state else .active
    count := min 255 (r.count + 1), last := s.line.clock, value := v }

/-- Whether an update of a record calls for ALARM_RAISED (R117). A later raise of a CLEARED momentary record calls for it where a
policy write has raised its severity or ended its mask, by R117's list of cases and against its sentence that such raises are
counted without a notice: DEDUCED (log entry 56), unsafe. -/
def callsForNotice (old new : AlarmRecord) : Bool :=
  (old.state != .active && new.state == .active) || (old.masked && !new.masked) ||
    decide (severityNum old.severity < severityNum new.severity)

/-- A record the alarm unit may evict: masked, or CLEARED with severity NOTE or WARN (R120). -/
def evictable (r : AlarmRecord) : Bool :=
  r.masked || (r.state == .cleared && (r.severity == .note || r.severity == .warn))

/-- Append a created record and offer its notice (R109, R117). -/
def appendRecord (r : AlarmRecord) (s : State) : State :=
  offerAlarmNotice r (noticeRaised r) { s with alm.records := s.alm.records ++ [r] }

/-- A dropped unmasked raise creates or updates LIST_FULL (R121). -/
def takeUpListFull (k : AlarmKind) (sev : Severity) (s : State) : State :=
  match s.alm.listFull with
  | none =>
    let r : AlarmRecord :=
      { kind := .listFull, source := 0, severity := sev, masked := false, state := .active, count := 1
        first := s.line.clock, last := s.line.clock, value := some (alarmKindNum k), lineState := s.line.state }
    offerAlarmNotice r (noticeRaised r) { s with alm.listFull := some r }
  | some old =>
    let r := { old with
      severity := maxSeverity old.severity sev, state := .active, count := min 255 (old.count + 1)
      last := s.line.clock, value := some (alarmKindNum k) }
    let s1 := { s with alm.listFull := some r }
    if callsForNotice old r then offerAlarmNotice r (noticeRaised r) s1 else s1

/-- The report of a created LEVEL_CRITICAL record (R113). -/
def creationReport (k : AlarmKind) (s : State) : State :=
  if k = .levelCritical then s.post (.levelCriticalRecord true) else s

/-- A raise of one of kinds 1 to 25 (R110, R118, R120). A policy row lowered or masked since the last raise, or the eviction of
the last WARN record that held, can lower the holding severity here, and with it TRIP, although R110 says that it cannot fall
at a raise: DEDUCED from R108, R109, R115 and R120 (log entry 39), unsafe. A raise that evicts is evaluated and published once,
after the eviction and the creation: DESIGN CHOICE (log entry 48), unsafe. The report of a created LEVEL_CRITICAL record before that
of the evicted one's removal is the model's as well: DESIGN CHOICE (log entry 59), unsafe. -/
def takeRaise (k : AlarmKind) (src : Nat) (v : Option Int) (s : State) : State :=
  match s.alarmFor k src with
  | some old =>
    let r := raisedRecord old v s
    let s1 := replaceRecord r s
    evaluateHolding (if callsForNotice old r then offerAlarmNotice r (noticeRaised r) s1 else s1)
  | none =>
    let r := newRecord k src v s
    if s.alm.records.length < Config.alarmCapacity then
      creationReport k (evaluateHolding (appendRecord r s))
    else
      match s.alm.records.find? evictable with
      | some victim => removalReport victim (creationReport k (evaluateHolding (appendRecord r (removeRecord victim s))))
      | none =>
        let s1 := if r.masked then s else evaluateHolding (takeUpListFull k r.severity s)
        if k = .feedJam then s1.post .feedJamDropped else s1

/-- A raise from another block; LIST_FULL is the alarm unit's own, and no block raises it (R106, R110). -/
def alarmRaise (k : AlarmKind) (src : Nat) (v : Option Int) (s : State) : State :=
  if k = .listFull then s else takeRaise k src v s

/-- A clear of one of kinds 1 to 25 (R111); a clear for OVERTEMP that finds no record is answered as a removal (R113). -/
def takeClear (k : AlarmKind) (src : Nat) (s : State) : State :=
  match s.alarmFor k src with
  | some r =>
    match r.state with
    | .active =>
      let r1 := { r with state := .cleared }
      evaluateHolding (offerAlarmNotice r1 (noticeCleared r1) (replaceRecord r1 s))
    | .acked => removalReport r (evaluateHolding (removeRecord r s))
    | .cleared => s
  | none => if k = .overtemp then s.post (.overtempRemoved (src - 1)) else s

/-- A clear from another block; LIST_FULL's is the alarm unit's own (R111). -/
def alarmClear (k : AlarmKind) (src : Nat) (s : State) : State := if k = .listFull then s else takeClear k src s

/-- The acknowledgement of LIST_FULL (R112, R121). -/
def acknowledgeListFull (s : State) : State :=
  match s.alm.listFull with
  | none => s
  | some r =>
    match r.state with
    | .active => { s with alm.listFull := some { r with state := .acked } }
    | .cleared => evaluateHolding { s with alm.listFull := none }
    | .acked => s

/-- The acknowledgement of one record (R112, R114). -/
def alarmAcknowledge (k : AlarmKind) (src : Nat) (s : State) : State :=
  if k = .listFull then acknowledgeListFull s
  else
    match s.alarmFor k src with
    | none => s
    | some r =>
      match r.state with
      | .active =>
        if k = .feedJam then removalReport r (evaluateHolding (removeRecord r s))
        else evaluateHolding (replaceRecord { r with state := .acked } s)
      | .cleared => removalReport r (evaluateHolding (removeRecord r s))
      | .acked => s

/-- The alarm unit's part of LINE RESTART: the list and the slot emptied without notices, holding none set and published, TRIP
negated, and the removals reported (R124), oldest record first: DESIGN CHOICE (log entry 59), unsafe. -/
def alarmRestart (s : State) : State :=
  let s1 := State.post
    { s with alm.records := [], alm.listFull := none, alm.holding := none, alm.warn := false, pins.trip := false }
    (.published none false)
  s.alm.records.foldl (fun t r => removalReport r t) s1

end Sys2Proof.Machine
end

