-- ==== Sys2Proof/Machine/Exhaust.lean ====
section
/-! DEFINITION. The exhaust monitor: fan demand, run-on and command (R96 to R99), flow supervision (R100 to R102), filter
loading (R103), restart (R105). -/
namespace Sys2Proof.Machine

/-- Derive the fan command and offer it when it changes (R99). -/
def deriveFan (s : State) : State :=
  let v := s.derivedFan
  if v = s.exh.fan then s
  else
    let s1 := { s with exh.fan := v }
    if v = 0 then s1.commandZero .exhaustFan else s1.commandValue .exhaustFan v

/-- The flow supervision returns to stage 1 with the timer at 0, and both conditions become absent, each clearing if it was
present (R101). R101 clears both together; FUME_FLOW_LOW's clear first is the model's: DESIGN CHOICE (log entry 47), unsafe. -/
def resetFlow (s : State) : State :=
  let s1 := (s.clearIf s.exh.condFlowLow .fumeFlowLow 0).clearIf s.exh.condLoss .fumeLoss 0
  { s1 with
    exh.flowTimer := 0, exh.stage := .one, exh.lossTaken := false, exh.condFlowLow := false, exh.condLoss := false }

/-- Apply the row of R101 for the present demand and band. -/
def applyFlow (s : State) : State :=
  if !s.exh.demand || s.flowBand == .recovered then resetFlow s else s

/-- Derive fan demand; a change applies the flow supervision's row; the fan command follows (R96, R99, R101). -/
def deriveDemand (s : State) : State :=
  let d := s.derivedDemand
  if d = s.exh.demand then deriveFan s else deriveFan (applyFlow { s with exh.demand := d })

/-- The run-on after a change of the line state (R97); a run-on of 0 expires as it starts. -/
def runOnAfter (s : State) (old new : LineState) : Option Nat :=
  if lineDemandsFan new then none
  else if new = .idle ∧ lineDemandsFan old then (if s.runOnMs = 0 then none else some 0)
  else s.exh.runOn

/-- The exhaust monitor's part of a change of the line state (R96, R97, R98, R130). -/
def exhaustOnLine (old : LineState) (s : State) : State :=
  deriveDemand { s with
    exh.runOn := runOnAfter s old s.line.state
    exh.manualFan := if old = .service then none else s.exh.manualFan }

/-- The run-on's expiry (R97). -/
def runOnExpire (s : State) : State := deriveDemand { s with exh.runOn := none }

/-- The valve report of the flux controller (R96). -/
def takeValveReport (o : Bool) (s : State) : State := deriveDemand { s with exh.valveOpen := o }
/-- The report of manual heater duties (R98). -/
def takeHeaterReport (b : Bool) (s : State) : State := deriveDemand { s with exh.srcHeater := b }
/-- The report of the manual pump value (R98). -/
def takePumpReport (b : Bool) (s : State) : State := deriveDemand { s with exh.srcPump := b }
/-- The report of the FEEDER command in SERVICE (R98). -/
def takeFeederReport (b : Bool) (s : State) : State := deriveDemand { s with exh.srcFeeder := b }

/-- The raise value of the flow alarms: the latest flow, none while the sensor status is NONE (R102). -/
def State.flowRaiseValue (s : State) : Option Int :=
  if s.exh.flowSensor = .none then none else s.exh.flow.map fun v => (v : Int)

/-- The expiry of the flow-low timer, by stage; each condition is raised once per entry into its stage (R102). -/
def flowExpire (s : State) : State :=
  match s.exh.stage with
  | .one => State.raise { s with exh.stage := .two, exh.flowTimer := 0, exh.condFlowLow := true } .fumeFlowLow 0 s.flowRaiseValue
  | .two =>
    State.raise { s with exh.flowTimer := s.flowLowMs, exh.condLoss := true, exh.lossTaken := true } .fumeLoss 0
      s.flowRaiseValue

/-- A write of the flow-low limit (R102; log entries 14, 38): 0 disables the supervision; a timer at or beyond the new limit
expires at once, or, its stage's condition raised already, is set to the new limit. -/
def flowLimitWritten (s : State) : State :=
  if s.flowLowMs = 0 then { s with exh.flowTimer := 0, exh.stage := .one, exh.lossTaken := false }
  else if s.exh.demand ∧ s.flowLowMs ≤ s.exh.flowTimer then
    if s.exh.lossTaken then { s with exh.flowTimer := s.flowLowMs } else flowExpire s
  else s

/-- What a report without a value leaves of a sensor status of the exhaust monitor (R163). -/
def exhaustStatus (old : SensorStatus) (r : Report) : SensorStatus :=
  if r.fault then .fault else if r.silent then .silent else old

/-- A flow arrival (R100). -/
def flowArrival (v : Nat) (s : State) : State :=
  applyFlow { s with exh.flow := some v, exh.flowSensor := .good }

/-- A report for the EXHAUST_FLOW entry without a value (R100, R163). -/
def flowReport (r : Report) (s : State) : State :=
  applyFlow { s with exh.flowSensor := exhaustStatus s.exh.flowSensor r }

/-- A filter dp arrival (R103). -/
def dpArrival (v : Nat) (s : State) : State :=
  let s1 := { s with exh.dp := some v, exh.dpSensor := .good }
  if !s.exh.demand then s1
  else if s.dpMax = 0 then { s1.clearIf s.exh.condLoaded .filterLoaded 0 with exh.condLoaded := false }
  else if s.dpMax < v then
    if s.exh.condLoaded then s1 else { s1.raise .filterLoaded 0 (some v) with exh.condLoaded := true }
  else if v ≤ s.dpMax - s.dpMax / 10 then { s1.clearIf s.exh.condLoaded .filterLoaded 0 with exh.condLoaded := false }
  else s1

/-- A report for the FILTER_DP entry without a value (R103, R163). -/
def dpReport (r : Report) (s : State) : State := { s with exh.dpSensor := exhaustStatus s.exh.dpSensor r }

/-- A write to the line table, taken by the exhaust monitor: the run-on, the flow band and the flow-low limit (R180). -/
def exhaustLineWrite (col : Nat) (s : State) : State :=
  let s1 :=
    match s.exh.runOn with
    | none => s
    | some e => if col = 38 ∧ s.runOnMs ≤ e then runOnExpire s else s
  let s2 := applyFlow s1
  if col = 37 then flowLimitWritten s2 else s2

/-- The exhaust monitor's expiry of its refresh timer (R99). -/
def exhaustRefresh (s : State) : State :=
  State.commandValue { s with exh.refresh := 0 } .exhaustFan s.exh.fan

/-- The exhaust monitor's part of LINE RESTART, before the line becomes IDLE (R105). -/
def exhaustRestart (s : State) : State :=
  deriveDemand { s with
    exh.runOn := none, exh.manualFan := none
    exh.srcHeater := false, exh.srcPump := false, exh.srcFeeder := false
    exh.flowTimer := 0, exh.stage := .one, exh.lossTaken := false
    exh.flow := none, exh.dp := none, exh.flowSensor := .none, exh.dpSensor := .none
    exh.condFlowLow := false, exh.condLoss := false, exh.condLoaded := false }

end Sys2Proof.Machine
end

