-- ==== Sys2Proof/Machine/Filter.lean ====
section
/-! DEFINITION. The traffic filter: binding and matching (R157), conversion (R159), fault and silence (R160, R161, R163),
absorption (R164), node status (R165), output interception and marks (R167, R168), writes and restart (R158, R169). -/
namespace Sys2Proof.Machine

/-- A channel map row is bound (R157). -/
def rowBound (r : ChannelRow) : Bool := r.quantity != .none && r.node != 0

/-- The channel map row of an entry. -/
def State.entryRow (s : State) (e : Nat) : ChannelRow := s.tab.channel.getD e {}

/-- The filter's state of an entry. -/
def State.entryCtx (s : State) (e : Nat) : EntryCtx := s.filt.entries.getD e {}

/-- Write the filter's state of an entry. -/
def State.setEntry (s : State) (e : Nat) (c : EntryCtx) : State := { s with filt.entries := s.filt.entries.set e c }

/-- A quantity is bound by some entry (R157, R127). -/
def State.quantityBound (s : State) (q : Quantity) : Bool := s.tab.channel.any fun r => rowBound r && r.quantity == q

/-- The entry a pair of a SAMPLE matches: a bound entry of that node and channel (R157). -/
def State.matchEntry (s : State) (src ch : Nat) : Option Nat :=
  s.tab.channel.findIdx? fun r => rowBound r && r.node == src && r.channel == ch

/-- Convert a raw value by an entry's gain and offset, clamped to its quantity's range (R159). -/
def convertRaw (r : ChannelRow) (raw : Int) : Int :=
  clampInt (quantityRange r.quantity).1 (quantityRange r.quantity).2 (div1024 (raw * r.gain) + r.offset)

/-- The raw codes of an open and of a shorted sensor (R160). -/
def faultCode (raw : Int) : Bool := raw == 32767 || raw == -32768

/-- A pair with a fault code (R160, R163). Where it ends a silence and begins a fault, the clear reaches the alarm unit before the
raise: DESIGN CHOICE (log entry 45), unsafe. -/
def takeFaultPair (e : Nat) (raw : Int) (s : State) : State :=
  let c := s.entryCtx e
  let s1 := s.setEntry e { age := 0, fault := true, silent := false }
  let s2 := s1.clearIf c.silent .sensorSilent e
  let s3 := if c.fault then s2 else s2.raise .sensorFault e (some raw)
  if c.fault && !c.silent then s3
  else s3.post (.delivery (s.entryRow e).quantity (some { fault := true, silent := false, begins := !c.fault }) none)

/-- A valid pair: the end of each condition that stood, then the converted value (R160, R161, R163). Where both stood,
SENSOR_FAULT's clear before SENSOR_SILENT's is the model's: DESIGN CHOICE (log entry 49), unsafe. -/
def takeValidPair (e : Nat) (raw : Int) (s : State) : State :=
  let c := s.entryCtx e
  let s1 := s.setEntry e { age := 0, fault := false, silent := false }
  let s2 := (s1.clearIf c.fault .sensorFault e).clearIf c.silent .sensorSilent e
  let ended := if c.fault || c.silent then some { fault := false, silent := false, begins := false } else none
  s2.post (.delivery (s.entryRow e).quantity ended (some (convertRaw (s.entryRow e) raw)))

/-- One pair of a SAMPLE (R162). -/
def takePair (src : Nat) (s : State) (p : Nat × Int) : State :=
  match s.matchEntry src p.1 with
  | none => s
  | some e => if faultCode p.2 then takeFaultPair e p.2 s else takeValidPair e p.2 s

/-- The NODE_FAULT condition of a function. -/
def State.nodeFault (s : State) (f : OutFn) : Bool := s.filt.nodeFaults.getD (outFnNum f) false

/-- Write the NODE_FAULT condition of a function. -/
def State.setNodeFault (s : State) (f : OutFn) (b : Bool) : State :=
  { s with filt.nodeFaults := s.filt.nodeFaults.set (outFnNum f) b }

/-- The NODE_FAULT condition of a function ends (R165). -/
def endNodeFault (f : OutFn) (s : State) : State := (s.setNodeFault f false).clearIf (s.nodeFault f) .nodeFault (outFnNum f)

/-- The node status test of one bound function: status 2 is FAULT (R145, R165). -/
def testNode (status : Nat) (s : State) (f : OutFn) : State :=
  if status = 2 then
    if s.nodeFault f then s
    else (s.setNodeFault f true).raise .nodeFault (outFnNum f) (some ((s.outputRow f).node : Int))
  else endNodeFault f s

/-- The functions bound to a node (R165). R165 gives them no order; the lowest function number first is the model's: DESIGN
CHOICE (log entry 43), unsafe. -/
def State.functionsOf (s : State) (node : Nat) : List OutFn :=
  outFns.filter fun f => (s.outputRow f).bound && (s.outputRow f).node == node

/-- A SAMPLE offered to the filter: the node status, then every pair in payload order (R162, R165). -/
def takeSample (src status : Nat) (pairs : List (Nat × Int)) (s : State) : State :=
  pairs.foldl (takePair src) ((s.functionsOf src).foldl (testNode status) s)

/-- A SAMPLE is absorbed when every pair is matched by an entry whose forward column is 0 (R164). -/
def State.absorbs (s : State) (src : Nat) (pairs : List (Nat × Int)) : Bool :=
  pairs.all fun p =>
    match s.matchEntry src p.1 with
    | none => false
    | some e => !(s.entryRow e).forward

/-- The bound functions that own a pair of an OUTPUT (R167). -/
def State.owners (s : State) (dest ch : Nat) : List OutFn :=
  outFns.filter fun f =>
    (s.outputRow f).bound && (s.outputRow f).channel == ch && ((s.outputRow f).node == dest || dest == broadcast)

/-- The functions that own pairs of an OUTPUT, in payload order (R167). -/
def State.ownersOf (s : State) (dest : Nat) (pairs : List (Nat × Nat)) : List OutFn :=
  pairs.flatMap fun p => s.owners dest p.1

/-- The REPLY for an intercepted OUTPUT: sequence number 0, REFUSED(OWNED), the function's number (R146, R167). -/
def ownedReply (source : Nat) (f : OutFn) : Telegram :=
  replyTelegram source [0, resultByte (.refused .owned), BitVec.ofNat 8 (outFnNum f)]

/-- Mark functions manual by telegram (R168). -/
def markManual (fs : List OutFn) (s : State) : State :=
  { s with filt.marks := fs.foldl (fun m f => m.set (outFnNum f) true) s.filt.marks }

/-- The filter's part of a change of the line state: on leaving SERVICE every mark ends, and each marked function that is bound
gets an urgent zero (R168). R168 gives the zeros no order; the lowest function number first is the model's: DESIGN CHOICE (log
entry 44), unsafe. -/
def filterOnLine (old : LineState) (s : State) : State :=
  if old = .service then
    let fs := outFns.filter fun f => s.marked f && (s.outputRow f).bound
    fs.foldl (fun t f => t.offerUrgentZero f) { s with filt.marks := List.replicate 8 false }
  else s

/-- The age timer of an entry runs: bound, an age limit above 0, no silence (R161). -/
def State.ageRuns (s : State) (e : Nat) : Bool :=
  rowBound (s.entryRow e) && decide (0 < (s.entryRow e).ageLimit) && !(s.entryCtx e).silent

/-- The expiry of an entry's age timer; it stays at its limit (R161, R163). -/
def ageExpire (e : Nat) (s : State) : State :=
  let c := s.entryCtx e
  let s1 := s.setEntry e { c with age := (s.entryRow e).ageLimit, silent := true }
  State.post (s1.raise .sensorSilent e none)
    (.delivery (s.entryRow e).quantity (some { fault := c.fault, silent := true, begins := true }) none)

/-- The restart of an entry by a write, before the write takes effect (R158, R163). Where both conditions stood, SENSOR_FAULT's
clear before SENSOR_SILENT's is the model's: DESIGN CHOICE (log entry 49), unsafe. -/
def restartEntry (e : Nat) (s : State) : State :=
  let c := s.entryCtx e
  let s1 := s.setEntry e {}
  let s2 := (s1.clearIf c.fault .sensorFault e).clearIf c.silent .sensorSilent e
  if c.fault || c.silent then
    s2.post (.delivery (s.entryRow e).quantity (some { fault := false, silent := false, begins := false }) none)
  else s2

/-- The filter's part of LINE RESTART: conditions absent without clears, age timers from 0 (R169). -/
def filterRestart (s : State) : State :=
  { s with filt.entries := List.replicate 32 {}, filt.nodeFaults := List.replicate 8 false }

end Sys2Proof.Machine
end

