-- ==== Sys2Proof/Machine/Flux.lean ====
section
/-! DEFINITION. The flux controller: window table and phases (R29, R31), bridge (R35), valve (R34), flux states (R36), pressure
(R38, R39), restart (R42). -/
namespace Sys2Proof.Machine

/-- The entry of a tag in a window table. -/
def windowOf (ws : List Window) (t : Tag) : Option Window := ws.find? fun w => w.tag == t

/-- Joining and leaving entries: the table follows the track queue; a record PENDING without an entry gets one (R29, R37; log
entry 29). -/
def syncWindows (s : State) : State :=
  { s with flux.windows := s.trk.track.filterMap fun r =>
      match windowOf s.flux.windows r.tag with
      | some w => some w
      | none => if r.flux = .pending then some { tag := r.tag } else none }

/-- The phase after the thresholds are tested; an entry that leaves BEFORE is also tested for PASSED (R31). -/
def nextPhase (phase : Phase) (opens passes : Bool) : Phase :=
  match phase with
  | .before => if opens then (if passes then .passed else .opened) else .before
  | .opened => if passes then .passed else .opened
  | .passed => .passed

/-- Move an entry's phase forward (R31). -/
def movePhase (s : State) (w : Window) : Window :=
  match s.recordOf w.tag with
  | none => w
  | some r =>
    match r.recipe with
    | none => w
    | some row =>
      let opens := decide (s.openingThreshold row ≤ s.leadDist r)
      let passes := s.trailAtLeast r (s.closingThreshold row)
      { w with phase := nextPhase w.phase opens passes }

/-- The flux state of a tag's record, NONE when there is no such record. -/
def State.fluxOf (s : State) (t : Tag) : FluxState := ((s.recordOf t).map fun r => r.flux).getD .none

/-- A claiming board is present: a window OPEN whose record is PENDING or SPRAYING (R34). -/
def State.claiming (s : State) : Bool :=
  s.flux.windows.any fun w => w.phase == .opened && (s.fluxOf w.tag == .pending || s.fluxOf w.tag == .spraying)

/-- The tags whose entries moved to PASSED, oldest first (R35). -/
def newlyPassed (old new : List Window) : List Tag :=
  (old.zip new).filterMap fun p => if p.1.phase != .passed && p.2.phase == .passed then some p.2.tag else none

/-- The record that follows a tag's record in the track queue (R35). -/
def recordAfter (track : List BoardRecord) (t : Tag) : Option BoardRecord :=
  (track.dropWhile fun r => r.tag != t)[1]?

/-- A bridge in force goes on: the target's window is still BEFORE and the spray eligible (R35). -/
def State.bridgeStands (s : State) : Bool :=
  match s.flux.bridge with
  | none => false
  | some t =>
    s.flux.eligible &&
      (match windowOf s.flux.windows t with
       | none => false
       | some w => w.phase == .before)

/-- The record may be a bridge target: PENDING, its window BEFORE, P5 above 0, its remaining distance at most P5 (R35). -/
def State.bridgeable (s : State) (r : BoardRecord) : Bool :=
  match windowOf s.flux.windows r.tag, r.recipe with
  | some w, some row =>
    r.flux == .pending && w.phase == .before && decide (0 < s.P row 5) &&
      decide ((s.openingThreshold row : Int) - s.leadDist r ≤ s.P row 5)
  | _, _ => false

/-- The bridge decision, with the entries that moved to PASSED at this evaluation (R35). -/
def State.newBridge (s : State) (moved : List Tag) : Option Tag :=
  if s.flux.valveOpen && s.flux.eligible && !s.claiming then
    match moved.getLast? with
    | none => none
    | some t =>
      match recordAfter s.trk.track t with
      | none => none
      | some r => if s.bridgeable r then some r.tag else none
  else none

/-- The bridge after the phase moves: one in force is ended or kept, and only without one is a bridge decided (R35; log entry
15). -/
def decideBridge (moved : List Tag) (s : State) : State :=
  { s with flux.bridge := if s.bridgeStands then s.flux.bridge else s.newBridge moved }

/-- The valve after an evaluation: the table of R34. -/
def nextValve (valve eligible claiming bridge : Bool) : Bool := eligible && (claiming || (valve && bridge))

/-- Drive the valve and the SPRAY line, and report a change to the exhaust monitor (R34). -/
def driveValve (s : State) : State :=
  let v := nextValve s.flux.valveOpen s.flux.eligible s.claiming s.flux.bridge.isSome
  let s1 := { s with flux.valveOpen := v, pins.spray := v }
  if v = s.flux.valveOpen then s1 else s1.post (.valveReport v)

/-- The flux state and the uncovered mark after the valve decision: the table of R36. -/
def nextFlux (st : FluxState) (phase : Phase) (valve uncovered : Bool) : FluxState × Bool :=
  match st, phase with
  | .pending, .before => (.pending, uncovered)
  | .pending, .opened => if valve then (.spraying, uncovered) else (.pending, true)
  | .pending, .passed => (.missed, uncovered)
  | .spraying, .opened => if valve then (.spraying, uncovered) else (.partially, true)
  | .spraying, .passed => (if uncovered then .partially else .done, uncovered)
  | other, _ => (other, uncovered)

/-- The flux state of a record with a window entry (R36). -/
def fluxedRecord (ws : List Window) (valve : Bool) (r : BoardRecord) : BoardRecord :=
  match windowOf ws r.tag with
  | none => r
  | some w => { r with flux := (nextFlux r.flux w.phase valve w.uncovered).1 }

/-- Move every entry's flux state and uncovered mark (R36). -/
def moveFluxStates (s : State) : State :=
  { s with
    flux.windows := s.flux.windows.map fun w =>
      { w with uncovered := (nextFlux (s.fluxOf w.tag) w.phase s.flux.valveOpen w.uncovered).2 }
    trk.track := s.trk.track.map (fluxedRecord s.flux.windows s.flux.valveOpen) }

/-- One evaluation of the flux controller (R32). -/
def fluxEvaluate (s : State) : State :=
  let s1 := syncWindows s
  let s2 := { s1 with flux.windows := s1.flux.windows.map (movePhase s1) }
  moveFluxStates (driveValve (decideBridge (newlyPassed s1.flux.windows s2.flux.windows) s2))

/-- Recompute eligibility; a change leads to an evaluation (R33). -/
def recomputeEligible (s : State) : State :=
  if s.sprayEligible = s.flux.eligible then s else fluxEvaluate { s with flux.eligible := s.sprayEligible }

/-- The valve-lead distance (R30). -/
def State.valveLeadDist (s : State) : Nat := s.trk.speed * s.valveLead / 1000

/-- Recompute Lv (R30). -/
def recomputeLead (s : State) : State := { s with flux.lv := s.valveLeadDist }

/-- A speed measurement at the flux controller (R30, R32). -/
def fluxOnSpeed (s : State) : State := fluxEvaluate (recomputeLead s)

/-- The status becomes LOW: FLUX_PRESSURE_LOW is raised and its policy mask captured (R38, R39). -/
def enterLow (value : Option Int) (s : State) : State :=
  State.raise { s with flux.status := .low, flux.mask := (s.policyOf .fluxPressureLow).masked } .fluxPressureLow 0 value

/-- The pressure status after a value: the table of R38. -/
def pressureStatus (v : Nat) (s : State) : State :=
  if v < s.pressureMin then
    if s.flux.status = .low then s else enterLow (some v) s
  else if v < s.pressureMin + 10 then
    if s.flux.status = .none then { s with flux.status := .normal } else s
  else { s.clearIf (s.flux.status == .low) .fluxPressureLow 0 with flux.status := .normal }

/-- A flux pressure arrival (R38). -/
def pressureArrival (v : Nat) (s : State) : State :=
  recomputeEligible (pressureStatus v { s with flux.pressure := some v })

/-- A report for the FLUX_PRESSURE entry: a beginning counts as low pressure, an end does nothing (R39, R163). -/
def pressureReport (r : Report) (s : State) : State :=
  if r.begins then recomputeEligible (if s.flux.status = .low then s else enterLow none s) else s

/-- The flux controller's part of LINE RESTART (R42); the record change that follows empties the window table with the track
queue. -/
def fluxRestart (s : State) : State :=
  recomputeLead { s with
    flux.valveOpen := false, pins.spray := false, flux.windows := [], flux.bridge := none
    flux.status := .none, flux.pressure := none, flux.mask := false, flux.eligible := false, flux.sprayTotal := 0 }

end Sys2Proof.Machine
end

