-- ==== Sys2Proof/Machine/Heat.lean ====
section
/-! DEFINITION. The heat controller: loop states and their entry actions (R45 to R47), targets (R51 to R54), in-band and heat-fail
tests (R55 to R57), the computation (R62 to R72), arrivals (R50), manual duty (R59), restart (R61). Loop n is index n - 1. -/
namespace Sys2Proof.Machine

/-- Write a loop context. -/
def State.setLoop (s : State) (i : Nat) (c : LoopCtx) : State := { s with heat.loops := s.heat.loops.set i c }

/-- Some loop holds a manual duty (R98). -/
def State.anyManual (s : State) : Bool := s.heat.loops.any fun c => c.manual.isSome

/-- Write a loop's manual duty; a change to or from none is reported to the exhaust monitor (R59). -/
def setManual (i : Nat) (m : Option Nat) (s : State) : State :=
  let s1 := s.setLoop i { s.loopCtx i with manual := m }
  if m.isSome = (s.loopCtx i).manual.isSome then s1 else s1.post (.heaterReport s1.anyManual)

/-- Send a duty: it becomes the commanded duty and goes to the function's normal slot (R58). -/
def sendDuty (i : Nat) (v : Nat) (s : State) : State :=
  State.commandValue (s.setLoop i { s.loopCtx i with duty := v }) (loopFn i) v

/-- Send an urgent zero: the commanded duty becomes 0 (R58). -/
def sendZero (i : Nat) (s : State) : State :=
  State.commandZero (s.setLoop i { s.loopCtx i with duty := 0 }) (loopFn i)

/-! In band and heat-fail tests. -/

/-- Set the pot-molten flag and report the change (R56). -/
def setMolten (b : Bool) (s : State) : State :=
  if b = s.heat.potMolten then s else State.post { s with heat.potMolten := b } .potMoltenChanged

/-- Evaluate a loop's in-band flag (R55); loop 5 in band sets the pot-molten flag (R56). -/
def evalInBand (i : Nat) (s : State) : State :=
  let b := s.inBandNow i
  let s1 :=
    if b = (s.loopCtx i).inBand then s
    else State.post (s.setLoop i { s.loopCtx i with inBand := b }) (.inBandChanged i)
  if i = 4 ∧ b = true then setMolten true s1 else s1

/-- Make a loop's heat-fail timer 0 and clear a present HEAT_FAIL condition (R46, R57). -/
def endHeatFail (i : Nat) (s : State) : State :=
  State.clearIf (s.setLoop i { s.loopCtx i with heatFailTimer := 0, heatFail := false }) (s.loopCtx i).heatFail
    .heatFail (i + 1)

/-- Test a loop's heat-fail condition; when it is false the timer is 0 and a present HEAT_FAIL clears (R57). -/
def heatFailTest (i : Nat) (s : State) : State := if s.heatFailCounts i then s else endHeatFail i s

/-- The in-band evaluation and the heat-fail test together (R50 step 6, R54). -/
def testLoop (i : Nat) (s : State) : State := heatFailTest i (evalInBand i s)

/-! Targets. -/

/-- The target of a loop with no change of state (R51, R52, R53). -/
def State.targetFor (s : State) (i : Nat) : Nat :=
  if i = 4 then s.potSetpoint
  else
    match (s.governing i).bind fun r => r.recipe with
    | some row => s.P row (6 + i)
    | none =>
      match s.trk.announces with
      | a :: _ => s.P a.row (6 + i)
      | [] => if s.idleExpired i then s.setback i else (s.loopCtx i).target

/-- The target a zone loop takes on entry into ACTIVE with no governing board and an empty announce queue (R54). -/
def State.entryTarget (s : State) (i : Nat) : Nat := if s.rowDefined 0 then s.P 0 (6 + i) else s.setback i

/-- Write a target; a change is reported to the line controller (R54). -/
def writeTarget (i : Nat) (v : Nat) (s : State) : State :=
  if v = (s.loopCtx i).target then s
  else State.post (s.setLoop i { s.loopCtx i with target := v }) (.targetChanged i)

/-- Write a target; a change also evaluates the in-band flag and the heat-fail test (R54). -/
def setTarget (i : Nat) (v : Nat) (s : State) : State :=
  if v = (s.loopCtx i).target then s else testLoop i (writeTarget i v s)

/-- Evaluate a loop's target (R54); a board that governs or an announce sets the idle timer to 0 (R52, R53). -/
def evalTarget (i : Nat) (s : State) : State :=
  let s1 := if i < 4 ∧ s.zoneFree i = false then s.setLoop i { s.loopCtx i with idleTimer := 0 } else s
  setTarget i (s1.targetFor i) s1

/-- Do something for each of the five loops. R45 gives the loops no order at one change; loop 1 first, and so its urgent zero
first, is the model's: DESIGN CHOICE (log entry 34), unsafe. -/
def forLoops (f : Nat → State → State) (s : State) : State := (List.range 5).foldl (fun t i => f i t) s

/-- Evaluate every target (R54). -/
def evalTargets (s : State) : State := forLoops evalTarget s

/-! Entry actions. -/

/-- Entry into OFF or FAULT (R46). -/
def enterRest (i : Nat) (st : LoopState) (s : State) : State :=
  let s1 := sendZero i (s.setLoop i { s.loopCtx i with state := st, lastComp := none, idleTimer := 0 })
  let s2 := endHeatFail i (evalInBand i s1)
  let s3 := if i = 4 then setMolten false s2 else s2
  if st = .fault then setManual i none s3 else s3

/-- Entry into ACTIVE (R47, R73). -/
def enterActive (i : Nat) (old : LoopState) (s : State) : State :=
  let s1 := s.setLoop i { s.loopCtx i with state := .active, heatFailTimer := 0, idleTimer := 0 }
  let s2 := writeTarget i (if i < 4 ∧ s1.zoneFree i = true then s1.entryTarget i else s1.targetFor i) s1
  let c := s2.loopCtx i
  let s3 := s2.setLoop i { c with
    integrator := 0, satHigh := false, satLow := false
    setpoint := c.lastTemp.getD c.target, remainder := 0, lastComp := none, duty := 0 }
  testLoop i (if old = .manual then sendZero i s3 else s3)

/-- Entry into MANUAL: the manual duty is sent (R58, R59). -/
def enterManual (i : Nat) (s : State) : State :=
  let s1 := s.setLoop i { s.loopCtx i with state := .manual, idleTimer := 0 }
  testLoop i (sendDuty i ((s1.loopCtx i).manual.getD 0) s1)

/-- Derive a loop's state afresh; a change takes the entry actions of the new state (R45). -/
def deriveLoop (i : Nat) (s : State) : State :=
  let old := (s.loopCtx i).state
  let st := s.derivedLoopState i
  if st = old then s
  else
    match st with
    | .active => enterActive i old s
    | .manual => enterManual i s
    | .off => enterRest i .off s
    | .fault => enterRest i .fault s

/-! The computation. -/

/-- The elapsed time, at most 2000 ms (R65). -/
def elapsed (now : Time) (last : Option Time) : Nat :=
  match last with
  | none => 0
  | some t => min 2000 (interval now t)

/-- Move a setpoint toward a target by at most a step (R67). -/
def moveToward (setpoint : Int) (target step : Nat) : Int :=
  if setpoint ≤ target then min target (setpoint + step) else max target (setpoint - step)

/-- Stage 1, the ramp: the new setpoint and remainder (R66, R67). -/
def rampStage (k3 dt target : Nat) (setpoint : Int) (remainder : Nat) : Int × Nat :=
  if k3 = 0 then (target, 0)
  else
    let sp := moveToward setpoint target ((remainder + k3 * dt) / 1000)
    (sp, if sp = target then 0 else (remainder + k3 * dt) % 1000)

/-- Stage 2, the error, clamped to -2000 to +2000 (R68). -/
def errorStage (setpoint temp : Int) : Int := clampInt (-2000) 2000 (setpoint - temp)

/-- Stage 3, the proportional term (R69). -/
def proportional (k0 : Nat) (e : Int) : Int := k0 * e

/-- The fourth stage integrates (R70). -/
def integrates (dt : Nat) (e : Int) (high low : Bool) : Bool :=
  decide (0 < dt) && !(decide (0 < e) && high) && !(decide (e < 0) && low)

/-- The increment, truncated toward zero (R71). -/
def increment (k1 dt : Nat) (e : Int) : Int := Int.tdiv (k1 * e * dt) 1000

/-- Stage 4, the integrator, clamped to 0 to K2 × 256 (R70, R71). -/
def integralStage (k1 k2 dt : Nat) (e : Int) (high low : Bool) (integrator : Nat) : Nat :=
  if integrates dt e high low then (clampInt 0 (k2 * 256 : Nat) (integrator + increment k1 dt e)).toNat else integrator

/-- Stage 5, the output: duty, high flag, low flag (R72). -/
def outputStage (k2 : Nat) (u : Int) : Nat × Bool × Bool :=
  if u < 0 then (0, false, true)
  else
    let d := (u.toNat + 128) / 256
    if d ≤ k2 then (d, false, false) else (k2, true, false)

/-- The loop context after a computation with an arriving temperature (R62). -/
def computed (k0 k1 k2 k3 : Nat) (now : Time) (temp : Int) (c : LoopCtx) : LoopCtx :=
  let dt := elapsed now c.lastComp
  let ramp := rampStage k3 dt c.target c.setpoint c.remainder
  let e := errorStage ramp.1 temp
  let integ := integralStage k1 k2 dt e c.satHigh c.satLow c.integrator
  let out := outputStage k2 (proportional k0 e + integ)
  { c with
    setpoint := ramp.1, remainder := ramp.2, integrator := integ
    satHigh := out.2.1, satLow := out.2.2, lastComp := some now, duty := out.1 }

/-- Run the computation and send its duty (R62). -/
def compute (i : Nat) (temp : Int) (s : State) : State :=
  let c := computed (s.K i 0) (s.K i 1) (s.K i 2) (s.K i 3) s.time temp (s.loopCtx i)
  sendDuty i c.duty (s.setLoop i c)

/-! Arrivals and reports. -/

/-- Update an exposure list, ascending by zone number, with a value for a zone (R18). -/
def exposeList (zone : Nat) (v : Int) : List Exposure → List Exposure
  | [] => [{ zone, low := v, high := v }]
  | e :: rest =>
    if e.zone = zone then { e with low := min e.low v, high := max e.high v } :: rest
    else if zone < e.zone then { zone, low := v, high := v } :: e :: rest
    else e :: exposeList zone v rest

/-- A zone temperature at the tracker: every record present in the zone is updated (R18). -/
def exposeZone (i : Nat) (v : Int) (s : State) : State :=
  s.mapTrack fun r => if s.presentInZone i r then { r with exposure := exposeList (i + 1) v r.exposure } else r

/-- The two sensor causes match what stands after a report (R48, R163). -/
def sensorCauses (i : Nat) (r : Report) (s : State) : State :=
  let c := s.loopCtx i
  s.setLoop i { c with causes := { c.causes with fault := r.fault, silent := r.silent } }

/-- The overtemperature comparison (R49). -/
def overtempTest (i : Nat) (v : Int) (s : State) : State :=
  let c := s.loopCtx i
  if (s.K i 6 : Int) < v then
    if s.K i 6 = 0 ∨ c.causes.overtemp = true then s
    else State.raise (s.setLoop i { c with causes := { c.causes with overtemp := true, latch := true } }) .overtemp
      (i + 1) (some v)
  else if v ≤ (s.K i 6 : Int) - 50 ∧ c.causes.overtemp = true then
    State.clear (s.setLoop i { c with causes := { c.causes with overtemp := false } }) .overtemp (i + 1)
  else s

/-- Step 2 of an arrival: to the tracker for a zone, to the pot controller for loop 5 (R50). -/
def passTemp (i : Nat) (v : Int) (s : State) : State :=
  if i = 4 then { s with pot.potTemp := some v } else exposeZone i v s

/-- Step 5 of an arrival: the computation in ACTIVE; the manual duty sent again in MANUAL (R50, R58). -/
def driveLoop (i : Nat) (v : Int) (s : State) : State :=
  match (s.loopCtx i).state with
  | .active => compute i v s
  | .manual => sendDuty i ((s.loopCtx i).manual.getD 0) s
  | .off => s
  | .fault => s

/-- A report that comes with an arrival or alone, applied to the causes (R48). -/
def applyReport (i : Nat) (r : Option Report) (s : State) : State :=
  match r with
  | none => s
  | some rep => sensorCauses i rep s

/-- A temperature arrival for a loop, in the order of R50. -/
def tempArrival (i : Nat) (report : Option Report) (v : Int) (s : State) : State :=
  let s1 := applyReport i report (s.setLoop i { s.loopCtx i with lastTemp := some v })
  testLoop i (driveLoop i v (deriveLoop i (overtempTest i v (passTemp i v s1))))

/-- A delivery of a loop's quantity: an arrival, or a report without a value (R48, R50). -/
def heatDelivery (i : Nat) (report : Option Report) (value : Option Int) (s : State) : State :=
  match value with
  | some v => tempArrival i report v s
  | none => deriveLoop i (applyReport i report s)

/-- The alarm unit's report that the OVERTEMP record of a loop is gone: a latch that stands is removed, and the state is derived
again (R45, R49); after LINE RESTART has emptied the causes there is none to remove (R61). -/
def overtempReleased (i : Nat) (s : State) : State :=
  let c := s.loopCtx i
  if c.causes.latch then deriveLoop i (s.setLoop i { c with causes := { c.causes with latch := false } }) else s

/-- The expiry of a heat-fail timer: HEAT_FAIL is raised and the timer stays at its limit (R57). -/
def heatFailExpire (i : Nat) (s : State) : State :=
  let c := s.loopCtx i
  State.raise (s.setLoop i { c with heatFailTimer := s.heatFailMs, heatFail := true }) .heatFail (i + 1) c.lastTemp

/-- The expiry of a zone's idle timer: it stays at its limit and the target is evaluated (R53, R54). -/
def idleExpire (i : Nat) (s : State) : State :=
  evalTarget i (s.setLoop i { s.loopCtx i with idleTimer := s.idleDelayMs })

/-! Writes to the loop table (R59, R64, R180). -/

/-- A write of K2: the integrator, a commanded duty of an ACTIVE or MANUAL loop and a manual duty are lowered to it (R59, R64);
the heat-fail test follows (R57). -/
def maxDutyWritten (i : Nat) (s : State) : State :=
  let k2 := s.K i 2
  let c := s.loopCtx i
  let s1 := s.setLoop i { c with integrator := min c.integrator (k2 * 256), manual := c.manual.map fun m => min m k2 }
  heatFailTest i (if (c.state = .active ∨ c.state = .manual) ∧ k2 < c.duty then sendDuty i k2 s1 else s1)

/-- A write of K5: 0 makes the manual duty none; the loop state is derived (R45, R59). -/
def enableWritten (i : Nat) (s : State) : State := deriveLoop i (if s.K i 5 = 0 then setManual i none s else s)

/-- The heat controller's part of a write to column K<col> of a loop's row (R180). -/
def loopWrite (i col : Nat) (s : State) : State :=
  if col = 2 then maxDutyWritten i s
  else if col = 4 then testLoop i s
  else if col = 5 then enableWritten i s
  else s

/-! Line state, manual duty, restart. -/

/-- The heat controller's part of a change of the line state (R59, R130). -/
def heatOnLine (old : LineState) (s : State) : State :=
  forLoops deriveLoop (if old = .service then forLoops (fun i t => setManual i none t) s else s)

/-- The checks of MANUAL OUTPUT for a heater function; none when they pass (R59). -/
def heaterRefusal (i v : Nat) (s : State) : Option Reason :=
  if s.line.state ≠ .service then some .state
  else if 1000 < v then some .range
  else if s.K i 5 ≠ 1 then some .state
  else if (s.loopCtx i).state = .fault then some .state
  else if s.marked (loopFn i) = true then some .state
  else none

/-- A new manual duty on a loop: entered, or sent when the loop is MANUAL already (R59). -/
def takeManual (i m : Nat) (s : State) : State :=
  if (s.loopCtx i).state = .manual then sendDuty i m (setManual i (some m) s) else deriveLoop i (setManual i (some m) s)

/-- MANUAL OUTPUT for a heater function (R59). -/
def manualHeater (i v : Nat) (s : State) : Result × State :=
  match heaterRefusal i v s with
  | some r => (.refused r, s)
  | none =>
    if v = 0 then (.done, deriveLoop i (setManual i none s))
    else (if s.K i 2 < v then .clamped else .done, takeManual i (min v (s.K i 2)) s)

/-- A loop's fields after LINE RESTART, before the line becomes IDLE; its state and commanded duty wait for the derivation that
follows (R61). -/
def restartedLoop (target : Nat) (c : LoopCtx) : LoopCtx :=
  { state := c.state, duty := c.duty, target }

/-- The heat controller's part of LINE RESTART (R61). -/
def heatRestart (s : State) : State :=
  { s with
    heat.loops := s.heat.loops.mapIdx fun i c => restartedLoop (if i = 4 then s.potSetpoint else 0) c
    heat.potMolten := false }

end Sys2Proof.Machine
end

