-- ==== Sys2Proof/Machine/Pot.lean ====
section
/-! DEFINITION. The pot controller: level (R77, R78), feeder (R79 to R85), wave gate and pump (R86 to R88), wave contact (R89
to R91), manual values (R92), restart (R94). -/
namespace Sys2Proof.Machine

/-- Set a command of the pot controller and offer the change: 0 to the urgent queue, another value to the slot (R88). -/
def State.offerChange (s : State) (f : OutFn) (v : Nat) : State :=
  if v = 0 then s.commandZero f else s.commandValue f v

/-- Derive the FEEDER command, offer a change and report it in SERVICE (R88, R92). -/
def deriveFeederCmd (s : State) : State :=
  let v := s.derivedFeeder
  if v = s.pot.feederCmd then s
  else
    let s1 := State.offerChange { s with pot.feederCmd := v } .feeder v
    if s.line.state = .service then s1.post (.feederReport (decide (0 < v))) else s1

/-- Set the feeder drive; the FEEDER command follows (R76, R88). -/
def setDrive (v : Nat) (s : State) : State := deriveFeederCmd { s with pot.feedDrive := v }

/-- The feed speed for the failure count's parity (R80). -/
def State.feedSpeed (s : State) (failures : Nat) : Nat := if failures % 2 = 0 then s.feedNormal else s.feedSlow

/-- The end of an attempt: drive 0, timer and baseline absent, the feeder in a given state (R81, R84, R85). -/
def endAttempt (f : FeederState) (s : State) : State :=
  setDrive 0 { s with pot.feeder := f, pot.feedTimer := none, pot.baseline := none }

/-- Derive the feeder state from the jam latch, the off causes and the attempt (R79, R85). -/
def deriveFeeder (s : State) : State :=
  if s.pot.jam then s
  else
    match s.pot.feeder, s.feederOffCause with
    | .off, false => { s with pot.feeder := .idle }
    | .idle, true => { s with pot.feeder := .off }
    | .feeding, true => endAttempt .off s
    | .paused, true => endAttempt .off s
    | _, _ => s

/-- Every record in contact gets its WAVE_INTERRUPTED flag (R91). -/
def interruptWave (s : State) : State :=
  s.mapTrack fun r => if inContact r then { r with flags.waveInterrupted := true } else r

/-- Derive the pump command (R87), marking boards in contact when it becomes forced (R91), and offer a change (R88). -/
def derivePump (s : State) : State :=
  let p := s.derivedPump
  let s1 := if p.2 && !s.pot.forced then interruptWave s else s
  let s2 := { s1 with pot.pump := p.1, pot.forced := p.2 }
  if p.1 = s.pot.pump then s2 else s2.offerChange .wavePump p.1

/-- The feeder's part of a change of the wave gate (R83). -/
def feederOnGate (opened : Bool) (s : State) : State :=
  match opened, s.pot.feeder with
  | true, .feeding => setDrive 0 { s with pot.feeder := .paused }
  | false, .paused => setDrive (s.feedSpeed s.pot.failures) { s with pot.feeder := .feeding }
  | _, _ => s

/-- Evaluate the gate board (R86); a change of the gate is taken by the feeder (R83), and of gate or board by the pump (R87). No
rule orders the two offers of one change; the feeder's first is the model's: DESIGN CHOICE (log entry 36), unsafe. -/
def evalGate (s : State) : State :=
  let g := s.gateRecord.map fun r => r.tag
  let s1 := { s with pot.gateBoard := g }
  let s2 := if g.isSome = s.pot.gateBoard.isSome then s1 else feederOnGate g.isSome s1
  if g = s.pot.gateBoard then s2 else derivePump s2

/-- The leading edge crossing of a record (R89). -/
def leadCrossing (s : State) (r : BoardRecord) : BoardRecord :=
  if r.waveEntry.isNone ∧ s.wavePosition ≤ s.leadDist r then
    { r with
      waveEntry := some s.time, waveTemp := s.pot.potTemp
      flags.waveInterrupted := r.flags.waveInterrupted || s.pot.forced }
  else r

/-- The dwell of a record whose trailing edge crosses now, or none (R90). -/
def dwellNow (s : State) (r : BoardRecord) : Option Nat :=
  match r.waveEntry, r.dwell with
  | some t, none => if s.trailAtLeast r s.wavePosition then some (interval s.time t) else none
  | _, _ => none

/-- A dwell outside its recipe's window (R90). -/
def dwellOut (s : State) (r : BoardRecord) (d : Nat) : Bool :=
  match r.recipe with
  | none => false
  | some row => decide (d < s.P row 14 ∨ s.P row 15 < d)

/-- The trailing edge crossing of a record (R90). -/
def trailCrossing (s : State) (r : BoardRecord) : BoardRecord :=
  match dwellNow s r with
  | none => r
  | some d => { r with dwell := some d, flags.dwellOut := r.flags.dwellOut || dwellOut s r d }

/-- The DWELL_OUT raise of a record whose trailing edge crosses now (R90). -/
def raiseDwellOut (r : BoardRecord) (s : State) : State :=
  match dwellNow s r with
  | none => s
  | some d => if dwellOut s r d then s.raise .dwellOut r.tag.toNat (some d) else s

/-- The crossing test of every record, oldest first: the lead crossing, then the trail crossing (R89, R90). -/
def waveCrossings (s : State) : State :=
  let s1 := s.mapTrack (leadCrossing s)
  let s2 := s1.trk.track.foldl (fun t r => raiseDwellOut r t) s1
  s2.mapTrack (trailCrossing s2)

/-- The pot controller's part of a position advance or record change: gate, then crossings (R86, R89). -/
def potOnTrack (s : State) : State := waveCrossings (evalGate s)

/-- The level conditions at a level arrival (R77). LEVEL_CRITICAL before LEVEL_OVER, where one value moves both, is the model's:
DESIGN CHOICE (log entry 51), unsafe. -/
def levelTests (v : Nat) (s : State) : State :=
  let s1 :=
    if v ≤ s.levelCritical then
      if s.pot.condCritical then s else { s.raise .levelCritical 0 (some v) with pot.condCritical := true }
    else if s.levelCritical + 20 ≤ v then { s.clearIf s.pot.condCritical .levelCritical 0 with pot.condCritical := false }
    else s
  if s.levelOverflow ≤ v then
    if s.pot.condOver then s1 else { s1.raise .levelOver 0 (some v) with pot.condOver := true }
  else if (v : Int) ≤ (s.levelOverflow : Int) - 20 then
    { s1.clearIf s.pot.condOver .levelOver 0 with pot.condOver := false }
  else s1

/-- The feeder's part of a level arrival: an attempt begins (R80) or ends (R81). -/
def feederOnLevel (v : Nat) (s : State) : State :=
  match s.pot.feeder with
  | .idle =>
    if v ≤ s.levelLow ∧ !s.gateOpen ∧ !s.pot.condOver then
      setDrive (s.feedSpeed s.pot.failures) { s with
        pot.feeder := .feeding, pot.baseline := some v
        pot.feedTimer := some { elapsed := 0, limit := s.feedTimeoutMs } }
    else s
  | .feeding | .paused => if s.levelHigh ≤ v then endAttempt .idle { s with pot.failures := 0 } else s
  | _ => s

/-- The level sensor status after a report (R78, R163). -/
def potStatus (r : Report) : SensorStatus := if r.fault then .fault else if r.silent then .silent else .good

/-- A report for the POT_LEVEL entry (R78, R79). -/
def levelReport (r : Report) (s : State) : State := deriveFeeder { s with pot.sensor := potStatus r }

/-- A level arrival: stored, tested against the two marks, handed to the feeder (R77); the commands that read the conditions are
derived again (R87, R92). No rule orders the offers of one arrival; the pump's before the feeder's is the model's: DESIGN CHOICE
(log entry 36), unsafe. -/
def levelArrival (v : Nat) (s : State) : State :=
  let s1 := levelTests v (State.post { s with pot.level := some v } .levelStored)
  feederOnLevel v (deriveFeederCmd (derivePump s1))

/-- Entry into JAMMED (R84). -/
def enterJam (s : State) : State :=
  State.raise (endAttempt .jammed { s with pot.jam := true }) .feedJam 0 (s.pot.level.map fun v => (v : Int))

/-- The rise since the baseline, signed (R82). -/
def State.levelRise (s : State) : Int := (s.pot.level.getD 0 : Int) - (s.pot.baseline.getD 0 : Int)

/-- A new interval: the baseline becomes the latest level and the timer restarts with the feed timeout (R82). -/
def restartInterval (s : State) : State :=
  { s with pot.baseline := s.pot.level, pot.feedTimer := some { elapsed := 0, limit := s.feedTimeoutMs } }

/-- The rise since the baseline is sufficient (R82). With a minimum rise of 0 every rise is, a fallen level included: that R82's
sentence on a minimum rise of 0 goes before its sentence on a fallen level is DEDUCED (log entry 53), unsafe. -/
def State.riseSuffices (s : State) : Bool := s.minRise == 0 || decide ((s.minRise : Int) ≤ s.levelRise)

/-- The expiry of the feed timer (R82). -/
def feedExpire (s : State) : State :=
  if s.riseSuffices then restartInterval s
  else if s.pot.failures < 2 then
    setDrive (s.feedSpeed (s.pot.failures + 1)) (restartInterval { s with pot.failures := s.pot.failures + 1 })
  else enterJam { s with pot.failures := 3 }

/-- The feed timer can expire: the feeder is FEEDING with a timeout above 0 (R80, R82). -/
def State.feedRuns (s : State) : Bool :=
  s.pot.feeder == .feeding && (match s.pot.feedTimer with | none => false | some t => decide (0 < t.limit))

/-- The alarm unit holds no FEED_JAM record any more: JAMMED is left (R84). -/
def feedJamRelease (s : State) : State :=
  if s.pot.jam then
    { s with pot.jam := false, pot.failures := 0, pot.feeder := if s.feederOffCause then .off else .idle }
  else s

/-- The report of a LEVEL_CRITICAL record made or removed (R87, R113). -/
def takeCriticalRecord (made : Bool) (s : State) : State := derivePump { s with pot.criticalRecord := made }

/-- The pot controller's part of a change of the line state (R79, R87, R92, R130). No rule orders the two offers of a change that
zeroes both commands; FEEDER's before WAVE_PUMP's is the model's: DESIGN CHOICE (log entry 36), unsafe. -/
def potOnLine (old : LineState) (s : State) : State :=
  let s1 :=
    if old = .service then
      State.post (State.post { s with pot.manualPump := none, pot.manualFeeder := none } (.pumpReport false))
        (.feederReport false)
    else s
  derivePump (deriveFeederCmd (deriveFeeder s1))

/-- The pot controller's part of a write to the line table: gate and pump command (R86, R87, R180). -/
def potLineWrite (s : State) : State := derivePump (evalGate s)

/-- The expiry of the pot controller's refresh timer: both functions are refreshed (R88). WAVE_PUMP's offer before FEEDER's is
the model's: DESIGN CHOICE (log entry 37), unsafe. -/
def potRefresh (s : State) : State :=
  State.commandValue (State.commandValue { s with pot.refresh := 0 } .wavePump s.pot.pump) .feeder s.pot.feederCmd

/-- A manual value: 0 makes it none (R92, R98). -/
def manualValue (v : Nat) : Option Nat := if v = 0 then none else some v

/-- MANUAL OUTPUT for WAVE_PUMP (R92). -/
def manualPumpOutput (v : Nat) (s : State) : State :=
  let s1 := derivePump { s with pot.manualPump := manualValue v }
  if (manualValue v).isSome = s.pot.manualPump.isSome then s1 else s1.post (.pumpReport (manualValue v).isSome)

/-- MANUAL OUTPUT for FEEDER (R92). -/
def manualFeederOutput (v : Nat) (s : State) : State := deriveFeederCmd { s with pot.manualFeeder := manualValue v }

/-- The pot controller's part of LINE RESTART (R94). -/
def potRestart (s : State) : State :=
  derivePump { s with
    pot.feeder := .off, pot.failures := 0, pot.jam := false, pot.feedTimer := none, pot.baseline := none
    pot.feedDrive := 0, pot.feederCmd := 0, pot.level := none, pot.potTemp := none
    pot.condCritical := false, pot.condOver := false, pot.sensor := .good, pot.criticalRecord := false
    pot.manualPump := none, pot.manualFeeder := none, pot.gateBoard := none }

end Sys2Proof.Machine
end

