-- ==== Sys2Proof/Machine/Line.lean ====
section
/-! DEFINITION. The line controller: lamps and permit (R131, R135), changes of the line state (R130), settle (R128), holding
severity (R129), changeover hold (R133), SET STATE (R126, R127), clock (R138, R139), manual outputs (R136). -/
namespace Sys2Proof.Machine

/-- Derive PERMIT (R131). -/
def derivePermit (s : State) : State := { s with pins.permit := s.permitNow }

/-- Derive the lamps (R135). -/
def deriveLamps (s : State) : State :=
  { s with
    pins.lampG := lampGreen s.line.state
    pins.lampA := lampAmber s.line.state s.line.warn
    pins.lampR := lampRed s.line.state s.line.holding }

/-- Derive HOLD; asserting it sets the stall timer to 0 (R20, R134). -/
def deriveHold (s : State) : State :=
  { s with
    pins.hold := s.line.state == .stopped
    trk.stallTimer := if s.line.state = .stopped then 0 else s.trk.stallTimer }

/-- The other blocks take a change of the line state, in the order of R130 (log entry 5). -/
def blocksOnLine (old : LineState) (s : State) : State :=
  filterOnLine old (exhaustOnLine old (potOnLine old (recomputeEligible (heatOnLine old s))))

/-- Change the line state: every block takes the change, then the line controller derives its lines and offers the LINE_STATE
notice (R130). That this notice goes before those of alarms the blocks raised or cleared at the change is the model's: DESIGN
CHOICE (log entry 52), unsafe. -/
def changeLine (new : LineState) (cause : LineCause) (s : State) : State :=
  let old := s.line.state
  let s1 := blocksOnLine old { s with line.state := new, line.settle := 0 }
  State.offerUpNormal (deriveLamps (deriveHold (derivePermit s1))) (noticeLineState old new cause s.line.clock)

/-- Test the settle condition: false sets the timer to 0; with a settle time of 0 a true one makes the line READY (R128). -/
def settleTest (s : State) : State :=
  if s.settleHolds = false then { s with line.settle := 0 }
  else if s.settleMs = 0 then changeLine .ready .settleTimer s
  else s

/-- Enter a line state; entry into WARMUP tests the settle condition (R128). -/
def enterLine (new : LineState) (cause : LineCause) (s : State) : State :=
  let s1 := changeLine new cause s
  if new = .warmup then settleTest s1 else s1

/-- Retest the settle condition in WARMUP (R128). -/
def retestSettle (s : State) : State := if s.line.state = .warmup then settleTest s else s

/-- A published STOP takes the line to STOPPED from these states (R129). -/
def stopsLine (st : LineState) : Bool := st == .warmup || st == .ready || st == .drain || st == .service

/-- What the line does at a published holding severity: the table of R129. -/
def actOnSeverity (h : Option Severity) (s : State) : State :=
  match h with
  | some .stop => if stopsLine s.line.state then enterLine .stopped .holdingSeverity s else s
  | some .drain => if s.line.state = .ready then enterLine .drain .holdingSeverity s else retestSettle s
  | some .warn => retestSettle s
  | some .note => retestSettle s
  | none => retestSettle s

/-- A publication of the holding severity (R129, R135). -/
def takePublished (h : Option Severity) (w : Bool) (s : State) : State :=
  actOnSeverity h (deriveLamps { s with line.holding := h, line.warn := w })

/-- The changeover hold, hold recipe and admitted recipe after an evaluation (R133). -/
def State.changeoverNow (s : State) : Bool × Option Row × Option Row :=
  match s.prospective with
  | none => (false, none, s.line.admitted)
  | some p =>
    if s.trk.lastEntered = some p ∨ s.line.admitted = some p then (false, none, s.line.admitted)
    else if s.zonesClear && s.zonesReady p then (false, none, some p)
    else (true, some p, s.line.admitted)

/-- Evaluate the changeover hold, and derive PERMIT (R131, R133). -/
def changeoverEval (s : State) : State :=
  let c := s.changeoverNow
  derivePermit { s with line.changeover := c.1, line.holdRecipe := c.2.1, line.admitted := c.2.2 }

/-- The line controller's part of a record change: an append sets the admitted recipe to none first (R133). -/
def lineOnRecord (appended : Bool) (s : State) : State :=
  changeoverEval (if appended then { s with line.admitted := none } else s)

/-! SET STATE. -/

/-- The geometry is in order (R127). -/
def State.geometryInOrder (s : State) : Bool :=
  decide (s.nozzle < s.zoneStart 0) &&
    ([0, 1, 2, 3].all fun z => decide (s.zoneStart z < s.zoneEnd z)) &&
    ([0, 1, 2].all fun z => decide (s.zoneStart z ≤ s.zoneStart (z + 1) ∧ s.zoneEnd z ≤ s.zoneEnd (z + 1))) &&
    decide (s.zoneEnd 3 ≤ s.wavePosition) && decide (s.wavePosition < s.exitPosition)

/-- The level marks are in order (R127). -/
def State.levelsInOrder (s : State) : Bool :=
  decide (s.levelCritical < s.levelLow) && decide (s.levelLow < s.levelHigh) && decide (s.levelHigh < s.levelOverflow)

/-- The channel map binds what WARMUP needs (R127). -/
def State.channelsBound (s : State) : Bool :=
  ((List.range 5).all fun i => s.K i 5 != 1 || s.quantityBound (loopQuantity i)) &&
    s.quantityBound .potLevel && s.quantityBound .exhaustFlow && s.quantityBound .fluxPressure && s.quantityBound .filterDp

/-- The output map binds what WARMUP needs (R127). -/
def State.outputsBound (s : State) : Bool :=
  ((List.range 5).all fun i => s.K i 5 != 1 || (s.outputRow (loopFn i)).bound) &&
    (s.outputRow .wavePump).bound && (s.outputRow .feeder).bound && (s.outputRow .exhaustFan).bound

/-- Each enabled loop has K2 and K6 above 0 (R127). -/
def State.limitsSet (s : State) : Bool :=
  (List.range 5).all fun i => s.K i 5 != 1 || (decide (0 < s.K i 2) && decide (0 < s.K i 6))

/-- The first check of WARMUP that fails, with its number, or none (R127). -/
def State.warmupCheck (s : State) : Option (Nat × Reason) :=
  if s.L 0 = 0 then some (1, .table)
  else if s.geometryInOrder = false then some (2, .table)
  else if s.levelsInOrder = false then some (3, .table)
  else if s.channelsBound = false then some (4, .table)
  else if s.outputsBound = false then some (5, .table)
  else if s.limitsSet = false then some (6, .table)
  else if s.net.downLink = false then some (7, .state)
  else if belowDrain s.line.holding = false then some (8, .state)
  else none

/-- SET STATE IDLE may be taken in a state other than IDLE (R126). -/
def State.idleAllowed (s : State) : Bool :=
  match s.line.state with
  | .idle | .warmup | .service => true
  | .ready | .drain => s.trk.track.isEmpty
  | .stopped => s.trk.track.isEmpty && s.line.holding != some .stop

/-- SET STATE IDLE: the result and the check number (R126). -/
def setIdle (s : State) : Result × Nat × State :=
  if s.idleAllowed = false then (.refused .state, 0, s)
  else if s.line.state = .idle then (.done, 0, s)
  else (.done, 0, enterLine .idle .directive s)

/-- SET STATE WARMUP (R126, R127). -/
def setWarmup (s : State) : Result × Nat × State :=
  match s.line.state with
  | .warmup => (.done, 0, s)
  | .idle =>
    match s.warmupCheck with
    | some (n, r) => (.refused r, n, s)
    | none => (.done, 0, enterLine .warmup .directive s)
  | .ready | .drain | .stopped | .service => (.refused .state, 0, s)

/-- SET STATE DRAIN (R126). -/
def setDrain (s : State) : Result × Nat × State :=
  match s.line.state with
  | .ready => (.done, 0, enterLine .drain .directive s)
  | .drain => (.done, 0, s)
  | .idle | .warmup | .stopped | .service => (.refused .state, 0, s)

/-- SET STATE RESUME (R126). -/
def setResume (s : State) : Result × Nat × State :=
  if s.line.state = .drain ∧ belowDrain s.line.holding = true then (.done, 0, enterLine .warmup .directive s)
  else (.refused .state, 0, s)

/-- SET STATE SERVICE, the class already checked (R126). -/
def setService (s : State) : Result × Nat × State :=
  if s.line.state = .service then (.done, 0, s)
  else if s.line.state = .idle ∧ s.line.holding ≠ some .stop then (.done, 0, enterLine .service .directive s)
  else (.refused .state, 0, s)

/-! The clock. -/

/-- One second later (R138). -/
def nextSecond (c : ClockValue) : ClockValue :=
  if c.seconds < 59 then { c with seconds := c.seconds + 1 }
  else if c.minutes < 59 then { c with seconds := 0, minutes := c.minutes + 1 }
  else if c.hours < 23 then { c with seconds := 0, minutes := 0, hours := c.hours + 1 }
  else { seconds := 0, minutes := 0, hours := 0, days := (c.days + 1) % 65536 }

/-- The expiry of the second timer (R135, R138). -/
def secondExpire (s : State) : State :=
  { s with
    line.second := 0
    line.clock := if s.line.clockRunning then nextSecond s.line.clock else s.line.clock }

/-- CLOCK SET (R139). -/
def clockSet (days hours minutes seconds : Nat) (s : State) : Result × State :=
  if s.line.clockRunning then (.refused .state, s)
  else
    (if 23 < hours ∨ 59 < minutes ∨ 59 < seconds then .clamped else .done,
     { s with line.clock := { days, hours := min hours 23, minutes := min minutes 59, seconds := min seconds 59 } })

/-- CLOCK HOLD and CLOCK RUN (R139). -/
def setClockRunning (b : Bool) (s : State) : State := { s with line.clockRunning := b }

/-! Manual outputs. -/

/-- The checks of MANUAL OUTPUT for the pump, the feeder and the fan; none when they pass (R92, R98). -/
def driveRefusal (f : OutFn) (v : Nat) (s : State) : Option Reason :=
  if s.line.state ≠ .service then some .state
  else if 1000 < v then some .range
  else if s.marked f = true then some .state
  else none

/-- MANUAL OUTPUT for EXHAUST_FAN (R98). -/
def manualFanOutput (v : Nat) (s : State) : State := deriveDemand { s with exh.manualFan := manualValue v }

/-- A manual value for the pump, the feeder or the fan, after its checks (R92, R98). -/
def manualDrive (f : OutFn) (v : Nat) (apply : State → State) (s : State) : Result × State :=
  match driveRefusal f v s with
  | some r => (.refused r, s)
  | none => (.done, apply s)

/-- MANUAL OUTPUT handed to the owner of the function (R136). -/
def manualOutput (function v : Nat) (s : State) : Result × State :=
  match function with
  | 0 => manualHeater 0 v s
  | 1 => manualHeater 1 v s
  | 2 => manualHeater 2 v s
  | 3 => manualHeater 3 v s
  | 4 => manualHeater 4 v s
  | 5 => manualDrive .wavePump v (manualPumpOutput v) s
  | 6 => manualDrive .feeder v (manualFeederOutput v) s
  | 7 => manualDrive .exhaustFan v (manualFanOutput v) s
  | _ => (.refused .range, s)

end Sys2Proof.Machine
end

