-- ==== Sys2Proof/Machine/Tracker.lean ====
section
/-! DEFINITION. The conveyor tracker: encoder (R3 to R5), speed (R6, R21), eye (R7), announces (R8 to R10), edges and records
(R12 to R14), exit (R16), supervision (R19, R20), purge (R23), restart (R28). -/
namespace Sys2Proof.Machine

/-! Edges. -/

/-- The flux state a record is created with (R11). -/
def State.createdFlux (s : State) (recipe : Option Row) : FluxState :=
  match recipe with
  | none => .none
  | some row => if s.P row 2 = 1 then .pending else .none

/-- What binds a new record: recipe, id, whether it is unannounced (R13). -/
structure Binding where
  recipe : Option Row
  id : List Byte
  unannounced : Bool
  deriving DecidableEq, Repr

/-- The binding of the next record: the head announce, or the unannounced policy (R13). -/
def State.binding (s : State) : Binding :=
  match s.trk.announces with
  | a :: _ => { recipe := some a.row, id := a.id, unannounced := false }
  | [] =>
    { recipe := if s.unannouncedPolicy = 0 ∧ s.rowDefined 0 = true then some 0 else none
      id := [], unannounced := true }

/-- The record a leading edge at p creates (R12). -/
def State.newBoard (s : State) (p : Pos) (b : Binding) : BoardRecord :=
  { tag := s.trk.nextTag, recipe := b.recipe, id := b.id, lead := p, entryTime := s.line.clock
    flux := s.createdFlux b.recipe, flags := { unannounced := b.unannounced } }

/-- The record is appended; the announce is consumed or row 0 pinned (R12, R13, R15). -/
def appendBoard (r : BoardRecord) (unannounced : Bool) (s : State) : State :=
  { s with
    trk.track := s.trk.track ++ [r]
    trk.announces := s.trk.announces.tail
    trk.pins := if unannounced then pin s.trk.pins r.recipe else s.trk.pins
    trk.nextTag := s.trk.nextTag + 1
    trk.entered := s.trk.entered + 1
    trk.lastEntered := r.recipe }

/-- A confirmed leading edge at p (R12, R13). Where it consumes an announce, the announce change is reported before the record change:
DESIGN CHOICE (log entry 58), unsafe. -/
def leadingEdge (p : Pos) (s : State) : State :=
  if Config.trackCapacity ≤ s.trk.track.length then s.raise .trackOverflow 0 none
  else
    let b := s.binding
    let r := s.newBoard p b
    let s1 := appendBoard r b.unannounced s
    let s2 := if b.unannounced then s1.raise .unannounced r.tag.toNat none else s1.post .announceChange
    s2.post (.recordChange true)

/-- The newest record whose trail is absent (R14). -/
def newestOpen (track : List BoardRecord) : Option BoardRecord := track.reverse.find? fun r => r.trail.isNone

/-- The length exceeds the recipe's maximum (R14). -/
def State.tooLong (s : State) (r : BoardRecord) (len : Nat) : Bool :=
  match r.recipe with
  | none => false
  | some row => decide (s.P row 10 < len)

/-- A record with its trail (R14). -/
def State.trailed (s : State) (p : Pos) (r : BoardRecord) : BoardRecord :=
  let len := dist p r.lead
  { r with
    trail := some p, length := some len
    flags.short := r.flags.short || decide (len < s.minLength)
    flags.overlength := r.flags.overlength || s.tooLong r len }

/-- A record leaves the head of the track queue by exit (R16). No rule orders its BOARD_EXIT among the notices of raises and clears
made earlier in the same event of the tracker; BOARD_EXIT, offered at once, before them is the model's: DESIGN CHOICE (log entry
52), unsafe. -/
def exitRecord (r : BoardRecord) (rest : List BoardRecord) (s : State) : State :=
  let s1 := { s with
    trk.track := rest, trk.pins := unpin s.trk.pins r.recipe, trk.exited := s.trk.exited + 1 }
  State.post (s1.offerUpNormal (noticeBoardExit r)) (.recordChange false)

/-- The exit test, repeated on the new oldest record; the first argument bounds the repeats (R16). -/
def exitTest : Nat → State → State
  | 0, s => s
  | n + 1, s =>
    match s.trk.track with
    | [] => s
    | r :: rest => if s.trailAtLeast r s.exitPosition then exitTest n (exitRecord r rest s) else s

/-- The stall timer at 0 and a present CONVEYOR_STALL condition cleared (R4, R20). -/
def endStall (s : State) : State :=
  State.clearIf { s with trk.stallTimer := 0, trk.condStall := false } s.trk.condStall .conveyorStall 0

/-- An empty track queue ends the stall supervision (R20). -/
def stallOnEmpty (s : State) : State := if s.trk.track.isEmpty then endStall s else s

/-- The exit test and what an emptied track queue ends (R16, R20). -/
def testExits (s : State) : State := stallOnEmpty (exitTest s.trk.track.length s)

/-- The EYE_BLOCKED condition of a record clears (R19). -/
def endEyeBlocked (t : Tag) (s : State) : State :=
  if s.trk.condEye = some t then State.clear { s with trk.condEye := none } .eyeBlocked t.toNat else s

/-- The length raises of a completed record (R14). R14 gives no order to the two alarms of a length both short and over-length;
SHORT_BOARD before OVERLENGTH is the model's: DESIGN CHOICE (log entry 55), unsafe. -/
def raiseLengths (r : BoardRecord) (len : Nat) (s : State) : State :=
  let s1 := if len < s.minLength then s.raise .shortBoard r.tag.toNat none else s
  if s.tooLong r len then s1.raise .overlength r.tag.toNat none else s1

/-- A confirmed trailing edge at p (R14). -/
def trailingEdge (p : Pos) (s : State) : State :=
  match newestOpen s.trk.track with
  | none => s
  | some r =>
    let s1 := s.mapTrack fun x => if x = r then s.trailed p r else x
    let s2 := endEyeBlocked r.tag (raiseLengths r (dist p r.lead) s1)
    State.post (testExits s2) (.recordChange false)

/-! The eye. -/

/-- A candidate is confirmed: the confirmed level changes and the edge is handled (R7). -/
def confirmEdge (c : Candidate) (s : State) : State :=
  let s1 := { s with trk.eyeBlocked := c.blocked, trk.candidate := none }
  if c.blocked then leadingEdge c.position s1 else trailingEdge c.position s1

/-- The pending candidate is tested for confirmation (R7). -/
def testCandidate (s : State) : State :=
  match s.trk.candidate with
  | none => s
  | some c => if s.debounce ≤ dist s.trk.position c.position then confirmEdge c s else s

/-- The raw eye takes a level (R7). -/
def eyeLevel (blocked : Bool) (s : State) : State :=
  match s.trk.candidate with
  | none =>
    if blocked = s.trk.eyeBlocked then s
    else
      let c : Candidate := { position := s.trk.position, blocked }
      if s.debounce = 0 then confirmEdge c s else { s with trk.candidate := some c }
  | some _ => if blocked = s.trk.eyeBlocked then { s with trk.candidate := none } else s

/-! Position. -/

/-- The eye-blocked test of the newest record (R19). -/
def testEyeBlocked (s : State) : State :=
  match s.trk.track.getLast? with
  | none => s
  | some r =>
    if r.trail.isNone ∧ 0 < s.eyeBlockedDistance ∧ s.eyeBlockedDistance ≤ s.leadDist r ∧ s.trk.condEye ≠ some r.tag then
      State.raise { s with trk.condEye := some r.tag } .eyeBlocked r.tag.toNat none
    else s

/-- Reverse travel is forgotten and a present CONVEYOR_REVERSE clears (R4, R5). -/
def endReverse (s : State) : State :=
  State.clearIf { s with trk.revDist := 0, trk.revResidue := 0, trk.condReverse := false } s.trk.condReverse
    .conveyorReverse 0

/-- A position advance, in the order of R4; the other blocks take it as an event of their own. -/
def positionAdvance (s : State) : State :=
  let s1 := endReverse { s with trk.position := s.trk.position + 1, trk.residue := 0 }
  let s2 := endStall (testExits (testEyeBlocked (testCandidate s1)))
  State.post { s2 with trk.advances := s2.trk.advances + 1 } .advance

/-- A forward pulse (R4). -/
def forwardPulse (s : State) : State :=
  if s.scaler ≤ s.trk.residue + 1 then positionAdvance s else { s with trk.residue := s.trk.residue + 1 }

/-- A full tenth of reverse travel (R5). -/
def reverseTenth (s : State) : State :=
  let d := satSucc 65535 s.trk.revDist
  let s1 := { s with trk.revResidue := 0, trk.revDist := d }
  if s.trk.revDist < d ∧ 0 < s.reverseLimit ∧ d = s.reverseLimit ∧ s.trk.condReverse = false then
    State.raise { s1 with trk.condReverse := true } .conveyorReverse 0 none
  else s1

/-- A reverse pulse (R5). -/
def reversePulse (s : State) : State :=
  if 0 < s.trk.residue then { s with trk.residue := s.trk.residue - 1 }
  else if s.scaler ≤ s.trk.revResidue + 1 then reverseTenth s
  else { s with trk.revResidue := s.trk.revResidue + 1 }

/-- How a transition of the encoder lines decodes (R3). -/
inductive Pulse where
  | none | forward | reverse
  deriving DecidableEq, Repr

/-- Decode the new levels against the last sampled ones (R3). -/
def decodePulse (lastA lastB a b : Bool) : Pulse :=
  if a ≠ lastA ∧ b ≠ lastB then .none
  else if a ≠ lastA then (if a ≠ b then .forward else .reverse)
  else if b ≠ lastB then (if b = a then .forward else .reverse)
  else .none

/-- The encoder lines take new levels (R3). -/
def encoderLevels (a b : Bool) (s : State) : State :=
  let s1 := { s with trk.encA := a, trk.encB := b }
  match decodePulse s.trk.encA s.trk.encB a b with
  | .none => s1
  | .forward => forwardPulse s1
  | .reverse => reversePulse s1

/-! Speed. -/

/-- A record's speed window does not contain the speed (R21). -/
def State.offends (s : State) (r : BoardRecord) : Bool :=
  match r.recipe with
  | none => false
  | some row => decide (s.trk.speed < s.P row 0 ∨ s.P row 1 < s.trk.speed)

/-- The speed-out check (R21). -/
def speedCheck (s : State) : State :=
  let s1 := s.mapTrack fun r => if s.offends r then { r with flags.speedOut := true } else r
  match s.trk.track.find? s.offends, s.trk.condSpeed with
  | some r, none => State.raise { s1 with trk.condSpeed := some r.tag } .speedOut r.tag.toNat none
  | some _, some _ => s1
  | none, some t => State.clear { s1 with trk.condSpeed := none } .speedOut t.toNat
  | none, none => s1

/-- A speed measurement (R6), the raise or clear of SPEED_OUT reported before the measurement: DESIGN CHOICE (log entry 58), unsafe. -/
def measureSpeed (s : State) : State :=
  State.post
    (speedCheck { s with trk.speed := min 65535 s.trk.advances, trk.advances := 0, trk.measTimer := 0 })
    .speedMeasured

/-! The stall timer. -/

/-- The stall timer counts (R20). -/
def State.stallCounts (s : State) : Bool := !s.trk.track.isEmpty && !s.pins.hold

/-- The stall timer can expire (R20). -/
def State.stallArmed (s : State) : Bool := s.stallCounts && decide (0 < s.stallMs) && !s.trk.condStall

/-- The expiry of the stall timer; it stays at its limit (R20). -/
def stallExpire (s : State) : State :=
  State.raise { s with trk.stallTimer := s.stallMs, trk.condStall := true } .conveyorStall 0 none

/-! Directives. -/

/-- The check of ANNOUNCE BOARD that fails first, if any (R9). -/
def announceRefusal (row : Nat) (id : List Byte) (s : State) : Option Reason :=
  if 31 < row ∨ 16 < id.length then some .range
  else if s.rowDefined (Fin.ofNat 32 row) = false then some .range
  else if Config.announceCapacity ≤ s.trk.announces.length then some .full
  else none

/-- ANNOUNCE BOARD from the station with a table entry (R9). -/
def announceBoard (entry row : Nat) (id : List Byte) (s : State) : Result × State :=
  match announceRefusal row id s with
  | some r => (.refused r, s.raise .announceRejected entry none)
  | none =>
    let rw : Row := Fin.ofNat 32 row
    (.done, State.post { s with
      trk.announces := s.trk.announces ++ [{ row := rw, id, arrival := s.time }]
      trk.pins := pin s.trk.pins (some rw) } .announceChange)

/-- The pin counts after every announce of a list is withdrawn (R10). -/
def unpinAnnounces (pins : List Nat) (as : List Announce) : List Nat := as.foldl (fun p a => unpin p (some a.row)) pins

/-- WITHDRAW ANNOUNCES (R10). -/
def withdrawAnnounces (s : State) : State :=
  if s.trk.announces.isEmpty then s
  else State.post { s with trk.announces := [], trk.pins := unpinAnnounces s.trk.pins s.trk.announces } .announceChange

/-- PURGE TRACK is taken in these line states (R23). -/
def purgeAllowed (st : LineState) : Bool := st == .stopped || st == .idle || st == .service

/-- One record leaves by PURGE TRACK, its notice offered at once (R23; log entry 52). -/
def purgeRecord (r : BoardRecord) (s : State) : State :=
  State.offerUpNormal { s with trk.track := s.trk.track.tail, trk.pins := unpin s.trk.pins r.recipe }
    (noticeBoardExit { r with flags.purged := true })

/-- The conditions PURGE TRACK clears (R23). R23 gives the clears no order; EYE_BLOCKED, SPEED_OUT, CONVEYOR_STALL is the model's:
DESIGN CHOICE (log entry 50), unsafe. -/
def purgeConditions (s : State) : State :=
  let s1 := match s.trk.condEye with
    | none => s
    | some t => State.clear { s with trk.condEye := none } .eyeBlocked t.toNat
  let s2 := match s1.trk.condSpeed with
    | none => s1
    | some t => State.clear { s1 with trk.condSpeed := none } .speedOut t.toNat
  endStall s2

/-- PURGE TRACK (R23). -/
def purgeTrack (s : State) : Result × State :=
  if purgeAllowed s.line.state = false then (.refused .state, s)
  else
    let gone := s.trk.track
    let s1 := gone.foldl (fun t r => purgeRecord r t) s
    let s2 := purgeConditions { s1 with trk.purged := s.trk.purged + BitVec.ofNat 16 gone.length }
    (.done, if gone.isEmpty then s2 else s2.post (.recordChange false))

/-- The tracker's part of LINE RESTART (R28), the record change reported before the announce change: DESIGN CHOICE (log entry 58),
unsafe. -/
def trackerRestart (s : State) : State :=
  let s1 := { s with
    trk.track := [], trk.announces := [], trk.entered := 0, trk.exited := 0, trk.purged := 0
    trk.pins := List.replicate 32 0, trk.lastEntered := none, trk.stallTimer := 0
    trk.revDist := 0, trk.revResidue := 0
    trk.condReverse := false, trk.condStall := false, trk.condEye := none, trk.condSpeed := none }
  State.post (s1.post (.recordChange false)) .announceChange

end Sys2Proof.Machine
end

