-- ==== Sys2Proof/Machine/Events.lean ====
section
/-! DEFINITION. What each block does with an internal event, and taking every waiting event, first in, first out (00_scope.md,
"Events and their order"; R22; log entries 3, 4). -/
namespace Sys2Proof.Machine

/-- A position advance at the other blocks, after the tracker (R4, R22). R22 lists the blocks without an order; the flux, heat, pot and
line controllers in the order of its table are the model's: DESIGN CHOICE (log entry 58), unsafe. -/
def onAdvance (s : State) : State := changeoverEval (potOnTrack (evalTargets (fluxEvaluate s)))

/-- A record change at the other blocks (R22), in the order of its table, which is the model's: DESIGN CHOICE (log entry 58), unsafe. -/
def onRecordChange (appended : Bool) (s : State) : State :=
  lineOnRecord appended (potOnTrack (evalTargets (fluxEvaluate s)))

/-- An announce change at the other blocks (R22), the heat controller before the line controller, which R133 leaves open: DESIGN CHOICE
(log entry 58), unsafe. -/
def onAnnounceChange (s : State) : State := changeoverEval (evalTargets s)

/-- A change of a loop's in-band flag at the line controller (R128, R133): the settle condition before the changeover hold, DESIGN
CHOICE (log entry 58), unsafe. -/
def onInBand (i : Nat) (s : State) : State := if i < 4 then changeoverEval (retestSettle s) else retestSettle s

/-- A change of a loop's target at the line controller (R133). -/
def onTarget (i : Nat) (s : State) : State := if i < 4 then changeoverEval s else s

/-- A delivery to the pot controller: the report first, then the value (R78). -/
def potDelivery (report : Option Report) (value : Option Int) (s : State) : State :=
  let s1 := match report with
    | none => s
    | some r => levelReport r s
  match value with
  | none => s1
  | some v => levelArrival v.toNat s1

/-- A delivery of the exhaust flow; a report that ends a condition comes with the arrival that sets GOOD (R100, R163). -/
def flowDelivery (report : Option Report) (value : Option Int) (s : State) : State :=
  match value, report with
  | some v, _ => flowArrival v.toNat s
  | none, some r => flowReport r s
  | none, none => s

/-- A delivery of the filter dp (R103, R163). -/
def dpDelivery (report : Option Report) (value : Option Int) (s : State) : State :=
  match value, report with
  | some v, _ => dpArrival v.toNat s
  | none, some r => dpReport r s
  | none, none => s

/-- A delivery of the flux pressure (R38, R39). -/
def pressureDelivery (report : Option Report) (value : Option Int) (s : State) : State :=
  let s1 := match report with
    | none => s
    | some r => pressureReport r s
  match value with
  | none => s1
  | some v => pressureArrival v.toNat s1

/-- A delivery to the owner of a quantity (R162, R163). -/
def takeDelivery (q : Quantity) (report : Option Report) (value : Option Int) (s : State) : State :=
  match q with
  | .none => s
  | .zoneTemp1 => heatDelivery 0 report value s
  | .zoneTemp2 => heatDelivery 1 report value s
  | .zoneTemp3 => heatDelivery 2 report value s
  | .zoneTemp4 => heatDelivery 3 report value s
  | .potTemp => heatDelivery 4 report value s
  | .potLevel => potDelivery report value s
  | .exhaustFlow => flowDelivery report value s
  | .filterDp => dpDelivery report value s
  | .fluxPressure => pressureDelivery report value s

/-- Take one internal event. At a change of the pot-molten flag the pot controller acts before the line controller (R56, R87, R128):
DESIGN CHOICE (log entry 58), unsafe. -/
def handle (e : Event) (s : State) : State :=
  match e with
  | .raise k src v => alarmRaise k src v s
  | .clear k src => alarmClear k src s
  | .published h w => takePublished h w s
  | .overtempRemoved i => overtempReleased i s
  | .levelCriticalRecord made => takeCriticalRecord made s
  | .feedJamRemoved => feedJamRelease s
  | .feedJamDropped => s
  | .advance => onAdvance s
  | .recordChange appended => onRecordChange appended s
  | .announceChange => onAnnounceChange s
  | .speedMeasured => fluxOnSpeed s
  | .inBandChanged i => onInBand i s
  | .targetChanged i => onTarget i s
  | .potMoltenChanged => retestSettle (derivePump s)
  | .levelStored => retestSettle s
  | .valveReport o => takeValveReport o s
  | .heaterReport b => takeHeaterReport b s
  | .pumpReport b => takePumpReport b s
  | .feederReport b => takeFeederReport b s
  | .delivery q r v => takeDelivery q r v s

/-- Take up to n waiting events, first in, first out. -/
def drain : Nat → State → State
  | 0, s => s
  | n + 1, s =>
    match s.events with
    | [] => s
    | e :: rest => drain n (handle e { s with events := rest })

/-- Take every waiting event (log entries 3, 4). -/
def settle (s : State) : State := drain Config.cascadeFuel s

end Sys2Proof.Machine
end

