-- ==== Sys2Proof/Machine/Restart.lean ====
section
/-! DEFINITION. LINE RESTART (R137) and device reset (R27, R42, R61, R76, R95, R124, R125, R154, R156, R169, R183). -/
namespace Sys2Proof.Machine

/-- Every block's own restart, in the order of R137, the filter after them (R28, R42, R61, R94, R105, R124, R169; log entry
17). -/
def restartBlocks (s : State) : State :=
  filterRestart (alarmRestart (exhaustRestart (potRestart (heatRestart (fluxRestart (trackerRestart s))))))

/-- The line controller's own restart (R137). -/
def lineRestartFields (s : State) : State :=
  derivePermit { s with
    line.settle := 0, line.changeover := false, line.holdRecipe := none, line.admitted := none }

/-- The line becomes IDLE: from STOPPED a change of the line state; in IDLE each loop is derived afresh (R61, R137). -/
def restartToIdle (s : State) : State :=
  if s.line.state = .idle then deriveLamps (deriveDemand (forLoops deriveLoop s)) else enterLine .idle .lineRestart s

/-- LINE RESTART is taken in these line states (R137). -/
def restartAllowed (st : LineState) : Bool := st == .idle || st == .stopped

/-- LINE RESTART, the class already checked (R137): the blocks restart and their events are taken, then the line controller. -/
def lineRestart (s : State) : Result × State :=
  if restartAllowed s.line.state then (.done, restartToIdle (lineRestartFields (settle (restartBlocks s))))
  else (.refused .state, s)

/-- The station address the straps give (R154). -/
def strapAddress (straps : BitVec 6) : Nat := min straps.toNat 62

/-- Device reset: every block at its device reset value, the encoder and eye levels and the straps sampled; the commands that
wait stay (log entry 21). -/
def deviceReset (encA encB eye : Bool) (straps : BitVec 6) (s : State) : State :=
  { State.reset with
    trk.encA := encA, trk.encB := encB, trk.eyeBlocked := eye
    net.address := strapAddress straps
    pending := s.pending }

end Sys2Proof.Machine
end

