-- ==== Sys2Proof/Machine/Operands.lean ====
section
/-! DEFINITION. Reading what arrives: the receive checks (R144), SAMPLE and OUTPUT payloads (R145), and the directive
list of a REQUEST with its operands (R146, R171). -/
namespace Sys2Proof.Machine

/-- A telegram that passed the receive checks, with the run as it was received (R144, R149). -/
structure Received where
  dest : Nat
  source : Nat
  kind : Nat
  payload : List Byte
  raw : List Byte
  deriving DecidableEq, Repr

/-- The receive checks in their order; none is a bad telegram (R144). -/
def checkRun (run : List Byte) : Option Received :=
  match run with
  | start :: dest :: source :: kind :: len :: rest =>
    if start = startByte ∧ len.toNat ≤ Config.payloadMax ∧ rest.length = len.toNat + 2 ∧
        dest.toNat ≤ broadcast ∧ source.toNat ≤ 62 ∧
        rest.drop len.toNat = be 2 (crc16 (dest :: source :: kind :: len :: rest.take len.toNat)).toNat then
      some { dest := dest.toNat, source := source.toNat, kind := kind.toNat, payload := rest.take len.toNat, raw := run }
    else none
  | _ => none

/-- Pairs of channel (one byte, 0 to 7) and value (two bytes); none when the bytes are not of that form (R145). -/
def readPairs : List Byte → Option (List (Nat × Nat))
  | [] => some []
  | c :: hi :: lo :: rest =>
    if c.toNat ≤ 7 then (readPairs rest).map fun ps => (c.toNat, word16 hi lo) :: ps else none
  | _ => none

/-- A SAMPLE payload: node status and 1 to 8 pairs with signed values; none when malformed (R145). -/
def readSample (payload : List Byte) : Option (Nat × List (Nat × Int)) :=
  match payload with
  | [] => none
  | status :: rest =>
    match readPairs rest with
    | none => none
    | some ps =>
      if status.toNat ≤ 2 ∧ 1 ≤ ps.length ∧ ps.length ≤ 8 then
        some (status.toNat, ps.map fun p => (p.1, signed16 p.2))
      else none

/-- An OUTPUT payload: 1 to 8 pairs with values of 0 to 1000; none when malformed (R145). -/
def readOutput (payload : List Byte) : Option (List (Nat × Nat)) :=
  match readPairs payload with
  | none => none
  | some ps => if 1 ≤ ps.length ∧ ps.length ≤ 8 ∧ ps.all (fun p => p.2 ≤ 1000) then some ps else none

/-- What reading one directive of the list gives (R171). -/
inductive DirectiveRead where
  | unknown
  | truncated
  | ok (d : Directive) (rest : List Byte)
  deriving DecidableEq, Repr

/-- A 16-bit operand, most significant byte first. -/
def operand16 (hi lo : Byte) : BitVec 16 := BitVec.ofNat 16 (word16 hi lo)

/-- The directive of a code and its operands, from the directive index (R171); the id of ANNOUNCE BOARD is as long as its
length operand says, and the bytes after a last WRITE RUN are its values. -/
def readDirective (code : Nat) (more : Bool) (bs : List Byte) : DirectiveRead :=
  match code with
  | 1 => .ok .identify bs
  | 2 => match bs with
    | sel :: part :: rest => .ok (.readStatus sel part) rest
    | _ => .truncated
  | 3 => match bs with
    | t :: r0 :: r1 :: c0 :: c1 :: m :: rest => .ok (.setCursor t r0 r1 c0 c1 m) rest
    | _ => .truncated
  | 4 => if more then .ok (.writeRun true []) bs else .ok (.writeRun false bs) []
  | 5 => match bs with
    | n :: rest => .ok (.readRun n) rest
    | _ => .truncated
  | 6 => match bs with
    | n :: rest => .ok (.readTrack n) rest
    | _ => .truncated
  | 7 => match bs with
    | row :: len :: rest =>
      if len.toNat ≤ rest.length then .ok (.announceBoard row (rest.take len.toNat)) (rest.drop len.toNat)
      else .truncated
    | _ => .truncated
  | 8 => .ok .withdrawAnnounces bs
  | 9 => .ok .purgeTrack bs
  | 10 => match bs with
    | en :: k :: hi :: lo :: sev :: st :: skip :: rest => .ok (.readAlarms en k (operand16 hi lo) sev st skip) rest
    | _ => .truncated
  | 11 => match bs with
    | form :: k :: hi :: lo :: rest => .ok (.acknowledge form k (operand16 hi lo)) rest
    | _ => .truncated
  | 12 => match bs with
    | st :: rest => .ok (.setState st) rest
    | _ => .truncated
  | 13 => match bs with
    | f :: hi :: lo :: rest => .ok (.manualOutput f (operand16 hi lo)) rest
    | _ => .truncated
  | 14 => .ok .clockHold bs
  | 15 => match bs with
    | dh :: dl :: h :: m :: sec :: rest => .ok (.clockSet (operand16 dh dl) h m sec) rest
    | _ => .truncated
  | 16 => .ok .clockRun bs
  | 17 => .ok .lineRestart bs
  | 18 => match bs with
    | a :: rest => .ok (.setAddress a) rest
    | _ => .truncated
  | _ => .unknown

/-- An item of a parsed directive list (R171). -/
inductive Item where
  | dir (d : Directive)
  /-- A code that is not in the index. -/
  | unknown
  /-- A known code whose operands run past the payload's end. -/
  | truncated (code : Nat)
  deriving DecidableEq, Repr

/-- The directive list, parsed until the first case that ends it (R171); the first argument bounds the directives. -/
def parseItems : Nat → List Byte → List Item
  | 0, _ => []
  | _ + 1, [] => []
  | n + 1, c :: bs =>
    let code := c.toNat % 128
    match readDirective code c.msb bs with
    | .unknown => [.unknown]
    | .truncated => [.truncated code]
    | .ok d rest => .dir d :: (if c.msb then parseItems n rest else [])

/-- The sequence number and the directive list of a REQUEST payload; an empty payload has number 0 and no list
(R146, R170). -/
def parseRequest (payload : List Byte) : Byte × List Item :=
  match payload with
  | [] => (0, [])
  | seq :: bs => (seq, parseItems bs.length bs)

/-- The bytes of a directive's largest result, its result byte included (the directive index). -/
def largestResult : Directive → Nat
  | .identify => 12
  | .readStatus .. => 51
  | .setCursor .. => 1
  | .writeRun .. => 2
  | .readRun .. => 57
  | .readTrack .. => 59
  | .announceBoard .. => 1
  | .withdrawAnnounces => 1
  | .purgeTrack => 1
  | .readAlarms .. => 42
  | .acknowledge .. => 1
  | .setState .. => 2
  | .manualOutput .. => 1
  | .clockHold => 1
  | .clockSet .. => 1
  | .clockRun => 1
  | .lineRestart => 1
  | .setAddress .. => 1

/-- The values of a WRITE RUN, two bytes each; none when the bytes are odd in number (R179). -/
def readValues : List Byte → Option (List Nat)
  | [] => some []
  | [_] => none
  | hi :: lo :: rest => (readValues rest).map fun vs => word16 hi lo :: vs

end Sys2Proof.Machine
end

