-- ==== Sys2Proof/Machine/Loader.lean ====
section
/-! DEFINITION. The loader: table sizes and ranges (R184 to R187), cells (R179, R180), cursors (R178), runs (R179, R181), the
station table (R177). Tables are numbered 0 RECIPE, 1 LINE, 2 LOOP, 3 CHANNEL, 4 OUTPUT, 5 POLICY, 6 STATION. -/
namespace Sys2Proof.Machine

/-! Sizes, ranges, write conditions. -/

/-- Rows and columns of a table (R184). -/
def tableSize : Nat → Nat × Nat
  | 0 => (32, 16)
  | 1 => (1, 43)
  | 2 => (5, 7)
  | 3 => (32, 7)
  | 4 => (8, 3)
  | 5 => (25, 2)
  | 6 => (4, 2)
  | _ => (0, 0)

/-- The range of a recipe column (R185). -/
def recipeRange : Nat → Int × Int
  | 0 | 1 | 11 => (0, 1000)
  | 2 => (0, 1)
  | 3 | 4 => (0, 500)
  | 5 => (0, 2000)
  | 6 | 7 | 8 | 9 => (0, 3500)
  | 10 => (500, 6000)
  | 12 | 13 => (0, 3000)
  | _ => (0, 20000)

/-- The range of a line table column (R186). -/
def lineRange : Nat → Int × Int
  | 0 => (1, 4096)
  | 1 => (0, 200)
  | 3 => (0, 500)
  | 15 => (0, 6000)
  | 17 => (0, 1)
  | 18 | 19 | 20 | 21 => (0, 3500)
  | 23 => (0, 4000)
  | 27 | 28 | 29 | 30 | 34 => (0, 2000)
  | 31 | 32 | 35 | 40 => (0, 1000)
  | 36 => (0, 10000)
  | 39 => (0, 5000)
  | _ => (0, 65535)

/-- The range of a loop table column (R187). -/
def loopRange : Nat → Int × Int
  | 0 => (0, 4095)
  | 1 => (0, 1023)
  | 2 => (0, 1000)
  | 3 | 4 => (0, 500)
  | 5 => (0, 1)
  | _ => (0, 5000)

/-- The range of a channel map column (R157). -/
def channelRange : Nat → Int × Int
  | 0 => (1, 62)
  | 1 => (0, 7)
  | 2 => (0, 9)
  | 3 => (-32768, 32767)
  | 4 => (-10000, 10000)
  | 5 => (0, 1)
  | _ => (0, 10000)

/-- The range of an output map column (R166). -/
def outputRange : Nat → Int × Int
  | 0 => (1, 62)
  | 1 => (0, 7)
  | _ => (0, 1)

/-- A value clamped to a range. -/
def clampTo (range : Int × Int) (v : Int) : Int := clampInt range.1 range.2 v

/-- A policy row belongs to an unmaskable kind (R108). -/
def rowUnmaskable (row : Nat) : Bool := ((alarmKindOf (row + 1)).map unmaskable).getD false

/-- A policy cell after its clamp: the floors of unmaskable kinds (R108). -/
def clampPolicy (row col : Nat) (v : Int) : Int :=
  if col = 0 then clampInt (if rowUnmaskable row then 3 else 0) 3 v
  else clampInt 0 (if rowUnmaskable row then 0 else 1) v

/-- A station cell after its clamp: an address above 62 is stored as 255 (R177). -/
def clampStation (col : Nat) (v : Int) : Int := if col = 0 then (if 62 < v then 255 else v) else clampInt 0 1 v

/-- Step 4 of a write: the value after the column's range and write rule (R179); an age limit of 1 to 9 is 10 (R157). -/
def clampCell (table row col : Nat) (v : Int) : Int :=
  match table with
  | 0 => clampTo (recipeRange col) v
  | 1 => clampTo (lineRange col) v
  | 2 => clampTo (loopRange col) v
  | 3 => if col = 6 ∧ 1 ≤ v ∧ v ≤ 9 then 10 else clampTo (channelRange col) v
  | 4 => clampTo (outputRange col) v
  | 5 => clampPolicy row col v
  | _ => clampStation col v

/-- The columns whose values are signed: gain and offset of CHANNEL (R179). -/
def signedColumn (table col : Nat) : Bool := table == 3 && (col == 3 || col == 4)

/-- A 16-bit run value as its column reads it (R179). -/
def columnValue (table col v : Nat) : Int := if signedColumn table col then signed16 v else v

/-- The requesting entry still holds the request's source; an earlier directive that emptied or moved it takes its class away
(R173). -/
def State.holdsSource (s : State) (entry src : Nat) : Bool := (s.tab.station.getD entry {}).address == some src

/-- The class in the requesting entry's row, as it stands (R173). -/
def State.classCell (s : State) (entry : Nat) : StationClass := (s.tab.station.getD entry {}).cls

/-- A SERVICE-class check passes (R173). -/
def State.isService (s : State) (entry src : Nat) : Bool := s.holdsSource entry src && s.classCell entry == .service

/-- The class a table's write asks for; held tells that the entry had a class when the run began, which the run's own writes
change only through its class cell (R173, R177, R184). -/
def State.classAllows (s : State) (entry : Nat) (held : Bool) (table : Nat) : Bool :=
  held && (table == 0 || s.classCell entry == .service)

/-- IDLE or SERVICE (R184). -/
def configurable (st : LineState) : Bool := st == .idle || st == .service

/-- The line state lets the table or column be written (R184, R187). -/
def stateAllows (st : LineState) (table col : Nat) : Bool :=
  if table = 1 ∨ table = 3 ∨ table = 4 ∨ (table = 2 ∧ col = 5) then configurable st else true

/-! Cells. -/

/-- 0 or 1. -/
def boolNum (b : Bool) : Int := if b then 1 else 0

/-- The value a channel map cell holds (R157). -/
def channelCell (r : ChannelRow) : Nat → Int
  | 0 => r.node
  | 1 => r.channel
  | 2 => quantityNum r.quantity
  | 3 => r.gain
  | 4 => r.offset
  | 5 => boolNum r.forward
  | _ => r.ageLimit

/-- The value an output map cell holds (R166). -/
def outputCell (r : OutputRow) : Nat → Int
  | 0 => r.node
  | 1 => r.channel
  | _ => boolNum r.bound

/-- The value a policy cell holds (R108). -/
def policyCell (r : PolicyRow) : Nat → Int
  | 0 => severityNum r.severity
  | _ => boolNum r.masked

/-- 0 OPERATE, 1 SERVICE (R177). -/
def classNum : StationClass → Nat
  | .operate => 0
  | .service => 1

/-- The value a station cell holds: 255 for an empty entry's address (R177). -/
def stationCell (r : StationRow) : Nat → Int
  | 0 => (r.address.getD 255 : Nat)
  | _ => classNum r.cls

/-- The value a cell holds (R180). -/
def State.cell (s : State) (table row col : Nat) : Int :=
  match table with
  | 0 => (s.tab.recipe.getD row []).getD col 0
  | 1 => s.tab.line.getD col 0
  | 2 => (s.tab.loop.getD row []).getD col 0
  | 3 => channelCell (s.tab.channel.getD row {}) col
  | 4 => outputCell (s.tab.output.getD row {}) col
  | 5 => policyCell (s.tab.policy.getD row { severity := .note }) col
  | _ => stationCell (s.tab.station.getD row {}) col

/-- A channel map row with a cell written (R157). -/
def channelWith (r : ChannelRow) (col : Nat) (v : Int) : ChannelRow :=
  match col with
  | 0 => { r with node := v.toNat }
  | 1 => { r with channel := v.toNat }
  | 2 => { r with quantity := quantityOf v.toNat }
  | 3 => { r with gain := v }
  | 4 => { r with offset := v }
  | 5 => { r with forward := v == 1 }
  | _ => { r with ageLimit := v.toNat }

/-- An output map row with a cell written (R166). -/
def outputWith (r : OutputRow) (col : Nat) (v : Int) : OutputRow :=
  match col with
  | 0 => { r with node := v.toNat }
  | 1 => { r with channel := v.toNat }
  | _ => { r with bound := v == 1 }

/-- A policy row with a cell written (R108). -/
def policyWith (r : PolicyRow) (col : Nat) (v : Int) : PolicyRow :=
  match col with
  | 0 => { r with severity := severityOf v.toNat }
  | _ => { r with masked := v == 1 }

/-- A station row with a cell written (R177). -/
def stationWith (r : StationRow) (col : Nat) (v : Int) : StationRow :=
  match col with
  | 0 => { r with address := if 62 < v then none else some v.toNat }
  | _ => { r with cls := if v = 1 then .service else .operate }

/-! Consistency (step 5 of a write). -/

/-- Some other entry of a list than the one at an index satisfies a test. -/
def otherRow {α : Type} (rows : List α) (i : Nat) (p : α → Bool) : Bool := (rows.eraseIdx i).any p

/-- The checks of the channel map, for its node, channel and quantity columns (R158). -/
def channelConsistent (rows : List ChannelRow) (i col : Nat) (r : ChannelRow) : Bool :=
  if 2 < col ∨ r.quantity = .none then true
  else
    r.node != 0 && !(otherRow rows i fun o => rowBound o && o.quantity == r.quantity) &&
      !(otherRow rows i fun o => rowBound o && o.node == r.node && o.channel == r.channel)

/-- The checks of the output map (R166). -/
def outputConsistent (rows : List OutputRow) (i : Nat) (r : OutputRow) : Bool :=
  !r.bound || (r.node != 0 && !(otherRow rows i fun o => o.bound && o.node == r.node && o.channel == r.channel))

/-- The checks of the station table (R177). -/
def stationConsistent (rows : List StationRow) (i : Nat) (r : StationRow) : Bool :=
  ((rows.set i r).any fun o => o.address.isSome && o.cls == .service) &&
    !(r.address.isSome && otherRow rows i fun o => o.address == r.address)

/-- The clamped value passes the consistency checks of its table (R179). -/
def State.consistent (s : State) (table row col : Nat) (v : Int) : Bool :=
  match table with
  | 3 => channelConsistent s.tab.channel row col (channelWith (s.tab.channel.getD row {}) col v)
  | 4 => outputConsistent s.tab.output row (outputWith (s.tab.output.getD row {}) col v)
  | 6 => stationConsistent s.tab.station row (stationWith (s.tab.station.getD row {}) col v)
  | _ => true

/-! Writes with their effects (step 6 of a write, R180). -/

/-- A write to a recipe cell: the written mark, and the changeover evaluation when it makes row 0 DEFINED (R133, R180). -/
def writeRecipe (row col v : Nat) (s : State) : State :=
  let s1 := { s with
    tab.recipe := s.tab.recipe.set row ((s.tab.recipe.getD row []).set col v)
    tab.written := s.tab.written.set row ((s.tab.written.getD row []).set col true) }
  if s.rowDefined 0 = false ∧ s1.rowDefined 0 = true then changeoverEval s1 else s1

/-- A write to a line table cell, taken by the blocks that read it (R30, R180). -/
def writeLine (col v : Nat) (s : State) : State :=
  let s1 := { s with tab.line := s.tab.line.set col v }
  let s2 := if col = 3 then recomputeLead s1 else s1
  exhaustLineWrite col (changeoverEval (potLineWrite (evalTargets s2)))

/-- A write to a loop table cell (R133, R180). A write of K5 is taken by the heat controller before the line controller: DESIGN CHOICE
(log entry 58), unsafe. -/
def writeLoop (row col v : Nat) (s : State) : State :=
  let s1 := loopWrite row col { s with tab.loop := s.tab.loop.set row ((s.tab.loop.getD row []).set col v) }
  if col = 5 then changeoverEval s1 else s1

/-- A write to a channel map cell; the node, channel, quantity and age limit columns restart the entry first (R158). -/
def writeChannel (row col : Nat) (v : Int) (s : State) : State :=
  let s1 := if col ≤ 2 ∨ col = 6 then restartEntry row s else s
  { s1 with tab.channel := s.tab.channel.set row (channelWith (s.tab.channel.getD row {}) col v) }

/-- The output function of a number. -/
def fnOf (n : Nat) : OutFn := outFns.getD n .heat1

/-- A write to an output map cell; NODE_FAULT ends when it unbinds or moves the function (R165). -/
def writeOutput (row col : Nat) (v : Int) (s : State) : State :=
  let old := s.tab.output.getD row {}
  let new := outputWith old col v
  let s1 := { s with tab.output := s.tab.output.set row new }
  if (old.bound && !new.bound) || new.node != old.node || new.channel != old.channel then endNodeFault (fnOf row) s1
  else s1

/-- A write to a policy cell: read at the next raise (R108). -/
def writePolicy (row col : Nat) (v : Int) (s : State) : State :=
  { s with tab.policy := s.tab.policy.set row (policyWith (s.tab.policy.getD row { severity := .note }) col v) }

/-- A write to a station cell: a change marks the entry for a fresh start (R177). -/
def writeStation (row col : Nat) (v : Int) (s : State) : State :=
  let old := s.tab.station.getD row {}
  let new := stationWith old col v
  { s with
    tab.station := s.tab.station.set row new
    ldr.fresh := if new = old then s.ldr.fresh else s.ldr.fresh.set row true }

/-- Store a clamped value in a cell, with its effects (R179, R180). -/
def writeCell (table row col : Nat) (v : Int) (s : State) : State :=
  match table with
  | 0 => writeRecipe row col v.toNat s
  | 1 => writeLine col v.toNat s
  | 2 => writeLoop row col v.toNat s
  | 3 => writeChannel row col v s
  | 4 => writeOutput row col v s
  | 5 => writePolicy row col v s
  | _ => writeStation row col v s

/-! Cursors. -/

/-- The cursor of an entry (R178). -/
def State.cursorOf (s : State) (entry : Nat) : Option Cursor := s.ldr.cursors.getD entry none

/-- Write the cursor of an entry. -/
def State.setCursorOf (s : State) (entry : Nat) (c : Option Cursor) : State :=
  { s with ldr.cursors := s.ldr.cursors.set entry c }

/-- The cursor after one value (R178). -/
def Cursor.next (c : Cursor) : Cursor :=
  if c.columnMode then { c with row := if c.row < c.lastRow then c.row + 1 else c.firstRow }
  else { c with col := if c.col < c.lastCol then c.col + 1 else c.firstCol }

/-- SET CURSOR's operands describe a window of a table (R178). -/
def windowValid (table firstRow lastRow firstCol lastCol mode : Nat) : Bool :=
  decide (table ≤ 6) && decide (mode ≤ 1) && decide (firstRow ≤ lastRow) && decide (firstCol ≤ lastCol) &&
    decide (lastRow < (tableSize table).1) && decide (lastCol < (tableSize table).2)

/-- SET CURSOR (R178). -/
def setCursor (entry table firstRow lastRow firstCol lastCol mode : Nat) (s : State) : Result × State :=
  if windowValid table firstRow lastRow firstCol lastCol mode then
    (.done, s.setCursorOf entry (some {
      table, firstRow, lastRow, firstCol, lastCol, columnMode := mode == 1, row := firstRow, col := firstCol }))
  else (.refused .range, s)

/-! Runs. -/

/-- Steps 1, 2, 3 and 5 of a write at a cell: the first check that fails (R179). -/
def State.writeRefusal (s : State) (entry : Nat) (held : Bool) (c : Cursor) (v : Int) : Option Reason :=
  if s.classAllows entry held c.table = false then some .access
  else if stateAllows s.line.state c.table c.col = false then some .state
  else if c.table = 0 ∧ 0 < s.trk.pins.getD c.row 0 then some .pinned
  else if s.consistent c.table c.row c.col (clampCell c.table c.row c.col v) = false then some .table
  else none

/-- The values of a run, in order, with the number written and the clamped mark so far; the written cell's events are taken
before the next value (R179, R180). -/
def writeValues (entry : Nat) (held : Bool) : List Nat → Nat → Bool → State → Result × Nat × State
  | [], n, clamped, s => (if clamped then .clamped else .done, n, s)
  | w :: ws, n, clamped, s =>
    match s.cursorOf entry with
    | none => (.refused .state, n, s)
    | some c =>
      let v := columnValue c.table c.col w
      let v1 := clampCell c.table c.row c.col v
      match s.writeRefusal entry held c v with
      | some r => (.refused r, n, s)
      | none =>
        writeValues entry held ws (n + 1) (clamped || v1 != v)
          (State.setCursorOf (settle (writeCell c.table c.row c.col v1 s)) entry (some c.next))

/-- The fresh starts at the end of a directive that wrote the station table: cursor unset, snapshot none (R177, R183). -/
def freshStarts (s : State) : State :=
  { s with
    ldr.cursors := s.ldr.cursors.mapIdx fun i c => if s.ldr.fresh.getD i false then none else c
    ldr.snapshots := s.ldr.snapshots.mapIdx fun i c => if s.ldr.fresh.getD i false then none else c
    ldr.fresh := List.replicate 4 false }

/-- WRITE RUN: the result and the number of values written (R179). -/
def writeRun (entry src : Nat) (more : Bool) (bytes : List Byte) (s : State) : Result × Nat × State :=
  match more, readValues bytes with
  | true, _ => (.refused .range, 0, s)
  | false, none => (.refused .range, 0, s)
  | false, some vs =>
    match s.cursorOf entry with
    | none => (.refused .state, 0, s)
    | some _ =>
      let r := writeValues entry (s.holdsSource entry src) vs 0 false s
      (r.1, r.2.1, freshStarts r.2.2)

/-- Two bytes of a cell's value (R181). -/
def State.cellBytes (s : State) (c : Cursor) : List Byte := beSigned 2 (s.cell c.table c.row c.col)

/-- The values of a READ RUN and the cursor after it (R181). -/
def readCells (s : State) : Nat → Cursor → List Byte × Cursor
  | 0, c => ([], c)
  | n + 1, c =>
    let r := readCells s n c.next
    (s.cellBytes c ++ r.1, r.2)

/-- READ RUN: the result and its data (R181). -/
def readRun (entry count : Nat) (s : State) : Result × List Byte × State :=
  if count = 0 ∨ 28 < count then (.refused .range, [], s)
  else
    match s.cursorOf entry with
    | none => (.refused .state, [], s)
    | some c =>
      let r := readCells s count c
      (.done, r.1, s.setCursorOf entry (some r.2))

end Sys2Proof.Machine
end

