-- ==== Sys2Proof/Machine/Status.lean ====
section
/-! DEFINITION. The status images of READ STATUS (R175, R176) and their values: line R140, tracker R25, flux R41, loops R60, pot
R93, exhaust R104, links R155, loader R182. A two-valued word is numbered from 0 in the order its rule lists its values (log
entry 19). -/
namespace Sys2Proof.Machine

/-- A value listed first and another: 0 when the first holds, 1 otherwise (R176). -/
def firstOf (b : Bool) : List Byte := be 1 (if b then 0 else 1)

/-- A number that may be absent: a presence byte and the field of n bytes, 0 when absent (R176). -/
def optNum (n : Nat) (v : Option Int) : List Byte :=
  match v with
  | none => be 1 0 ++ be n 0
  | some x => be 1 1 ++ beSigned n x

/-- An optional natural number. -/
def optNat (n : Nat) (v : Option Nat) : List Byte := optNum n (v.map fun x => (x : Int))

/-- A number reported as saturating, in n bytes (R176). -/
def satNum (n v : Nat) : List Byte := be n (min v (256 ^ n - 1))

/-- none, NOTE, WARN, DRAIN, STOP numbered from 0 (R140). -/
def holdingNum : Option Severity → Nat
  | none => 0
  | some sv => severityNum sv + 1

/-- off, steady, blinking (R140). -/
def lampNum : Lamp → Nat
  | .off => 0 | .steady => 1 | .blinking => 2

/-- A recipe row or none. -/
def optRow (r : Option Row) : List Byte := optNat 1 (r.map fun x => x.val)

/-- The line block (R140). -/
def lineImage (s : State) : List Byte :=
  be 1 (lineStateNum s.line.state) ++ be 1 (holdingNum s.line.holding) ++ firstOf s.line.warn ++ satNum 4 s.line.settle ++
    optRow s.prospective ++ firstOf s.line.changeover ++ optRow s.line.holdRecipe ++ optRow s.line.admitted ++
    firstOf s.pins.permit ++ firstOf s.pins.hold ++ be 1 (lampNum s.pins.lampG) ++ be 1 (lampNum s.pins.lampA) ++
    be 1 (lampNum s.pins.lampR) ++ firstOf (!s.line.clockRunning) ++ clockBytes s.line.clock

/-- The tracker block (R25). -/
def trackerImage (s : State) : List Byte :=
  be 3 s.trk.position.toNat ++ be 2 s.trk.residue ++ be 2 s.trk.speed ++ be 2 s.trk.revDist ++
    firstOf s.trk.eyeBlocked ++ firstOf s.trk.candidate.isSome ++ be 1 s.trk.track.length ++ be 1 s.trk.announces.length ++
    optRow (s.trk.announces.head?.map fun a => a.row) ++
    optNat 2 (s.trk.announces.head?.map fun a => min (interval s.time a.arrival) 65535) ++
    optRow s.trk.lastEntered ++ be 2 s.trk.nextTag.toNat ++ be 2 s.trk.entered.toNat ++ be 2 s.trk.exited.toNat ++
    be 2 s.trk.purged.toNat ++ satNum 2 s.trk.stallTimer

/-- NONE, NORMAL, LOW (R41). -/
def pressureNum : PressureStatus → Nat
  | .none => 0 | .normal => 1 | .low => 2

/-- The window entries in a phase (R41). -/
def State.phaseCount (s : State) (p : Phase) : Nat := (s.flux.windows.filter fun w => w.phase == p).length

/-- The flux block (R41). -/
def fluxImage (s : State) : List Byte :=
  firstOf (!s.flux.valveOpen) ++ firstOf s.flux.eligible ++ be 1 (pressureNum s.flux.status) ++ optNat 2 s.flux.pressure ++
    firstOf s.flux.mask ++ be 2 s.flux.lv ++ optNat 2 (s.flux.bridge.map fun t => t.toNat) ++
    be 1 (s.phaseCount .before) ++ be 1 (s.phaseCount .opened) ++ be 1 (s.phaseCount .passed) ++ satNum 4 s.flux.sprayTotal

/-- OFF, ACTIVE, FAULT, MANUAL (R60). -/
def loopStateNum : LoopState → Nat
  | .off => 0 | .active => 1 | .fault => 2 | .manual => 3

/-- One loop of the loops block, 36 bytes (R60). -/
def loopImage (s : State) (i : Nat) : List Byte :=
  let c := s.loopCtx i
  be 1 (loopStateNum c.state) ++ firstOf c.causes.fault ++ firstOf c.causes.silent ++ firstOf c.causes.overtemp ++
    firstOf c.causes.latch ++ be 2 c.target ++ beSigned 2 c.setpoint ++ be 2 c.remainder ++ be 3 c.integrator ++
    firstOf c.satHigh ++ firstOf c.satLow ++ optNum 2 c.lastTemp ++ be 2 c.duty ++ optNat 2 c.manual ++ firstOf c.inBand ++
    satNum 4 c.heatFailTimer ++ satNum 4 (if i = 4 then 0 else c.idleTimer) ++
    optNat 2 (if i = 4 then none else (s.governing i).map fun r => r.tag.toNat)

/-- The loops block, 181 bytes: loop 1 first, the pot-molten flag last (R60). -/
def loopsImage (s : State) : List Byte := (List.range 5).flatMap (loopImage s) ++ firstOf s.heat.potMolten

/-- GOOD, FAULT, SILENT (R93). -/
def potSensorNum : SensorStatus → Nat
  | .none => 0 | .good => 0 | .fault => 1 | .silent => 2

/-- OFF, IDLE, FEEDING, PAUSED, JAMMED (R93). -/
def feederNum : FeederState → Nat
  | .off => 0 | .idle => 1 | .feeding => 2 | .paused => 3 | .jammed => 4

/-- The pot block (R93). With a feed timeout of 0 the limit less the elapsed time has no value in the rules, and the remaining
time is sent as 0: DESIGN CHOICE (log entry 35), unsafe. -/
def potImage (s : State) : List Byte :=
  optNat 2 s.pot.level ++ firstOf s.pot.condCritical ++ firstOf s.pot.condOver ++ be 1 (potSensorNum s.pot.sensor) ++
    be 1 (feederNum s.pot.feeder) ++ be 1 s.pot.failures ++ optNat 2 s.pot.baseline ++
    optNat 4 (s.pot.feedTimer.map fun t => t.elapsed) ++ optNat 4 (s.pot.feedTimer.map fun t => t.limit - t.elapsed) ++
    be 2 s.pot.feederCmd ++ firstOf (!s.gateOpen) ++ optNat 2 (s.pot.gateBoard.map fun t => t.toNat) ++
    be 2 s.pot.pump ++ firstOf s.pot.forced ++ optNat 2 s.pot.manualPump ++ optNat 2 s.pot.manualFeeder ++
    optNum 2 s.pot.potTemp

/-- NONE, GOOD, FAULT, SILENT (R104). -/
def exhaustSensorNum : SensorStatus → Nat
  | .none => 0 | .good => 1 | .fault => 2 | .silent => 3

/-- LOW, MARGIN, RECOVERED (R104). -/
def bandNum : FlowBand → Nat
  | .low => 0 | .margin => 1 | .recovered => 2

/-- Stage 1 or 2, as a number (R104). -/
def stageNum : FlowStage → Nat
  | .one => 1 | .two => 2

/-- The exhaust block (R104). -/
def exhaustImage (s : State) : List Byte :=
  firstOf s.exh.demand ++ firstOf (lineDemandsFan s.line.state) ++ firstOf s.exh.runOn.isSome ++ firstOf s.exh.valveOpen ++
    firstOf s.manualDemandsFan ++ optNat 4 s.exh.runOn ++ optNat 2 s.exh.manualFan ++ firstOf s.exh.srcHeater ++
    firstOf s.exh.srcPump ++ firstOf s.exh.srcFeeder ++ be 2 s.exh.fan ++ optNat 2 s.exh.flow ++
    be 1 (exhaustSensorNum s.exh.flowSensor) ++ be 1 (bandNum s.flowBand) ++ be 1 (stageNum s.exh.stage) ++
    be 4 s.exh.flowTimer ++ firstOf s.exh.condFlowLow ++ firstOf s.exh.condLoss ++ optNat 2 s.exh.dp ++
    be 1 (exhaustSensorNum s.exh.dpSensor) ++ firstOf s.exh.condLoaded

/-- The links block (R155). -/
def linksImage (s : State) : List Byte :=
  be 1 s.net.address ++ firstOf s.net.addressOpen ++ firstOf s.net.upLink ++ firstOf s.net.downLink ++ be 2 s.net.upBad ++
    be 2 s.net.downBad ++ be 1 s.net.downFifo.length ++ be 1 s.net.upFifo.length ++ be 1 s.net.downUrgent.length ++
    be 1 s.net.downSlots.length ++ be 1 s.net.upUrgent.length ++ be 1 s.upNormalOccupancy ++ be 1 s.net.upFair ++
    be 1 s.net.downFair

/-- The number whose bit r is set for each DEFINED row r (R176). -/
def State.definedSet (s : State) : Nat :=
  ((List.range 32).map fun r => if s.rowDefined (Fin.ofNat 32 r) then 2 ^ r else 0).sum

/-- The written cells of a recipe row (R182). -/
def writtenCells (row : List Bool) : Nat := (row.filter fun w => w).length

/-- The cursor fields of the loader block, 0 while the cursor is unset (R182). -/
def cursorImage : Option Cursor → List Byte
  | none => firstOf false ++ be 8 0
  | some c =>
    firstOf true ++ be 1 c.table ++ be 1 c.firstRow ++ be 1 c.lastRow ++ be 1 c.firstCol ++ be 1 c.lastCol ++
      firstOf (!c.columnMode) ++ be 1 c.row ++ be 1 c.col

/-- The loader block of a requesting entry (R182). R182 offers only OPERATE or SERVICE for an entry that an earlier directive of the
request emptied or moved, which has no class (R173); its row's class cell as it stands is the model's: DESIGN CHOICE (log entry
54), unsafe. -/
def loaderImage (entry : Nat) (s : State) : List Byte :=
  be 1 entry ++ be 1 (classNum (s.tab.station.getD entry {}).cls) ++ cursorImage (s.cursorOf entry) ++ be 4 s.definedSet ++
    s.tab.written.flatMap fun row => be 1 (writtenCells row)

/-- The image of a selected block; none for a selector above 7 (R175). -/
def statusImage (entry selector : Nat) (s : State) : Option (List Byte) :=
  match selector with
  | 0 => some (lineImage s)
  | 1 => some (trackerImage s)
  | 2 => some (fluxImage s)
  | 3 => some (loopsImage s)
  | 4 => some (potImage s)
  | 5 => some (exhaustImage s)
  | 6 => some (linksImage s)
  | 7 => some (loaderImage entry s)
  | _ => none

/-- The parts of an image: its length divided by 48 and rounded up (R175). -/
def partCount (image : List Byte) : Nat := (image.length + 47) / 48

/-- The data of one part: part number, part count, up to 48 bytes (R175). -/
def partData (part : Nat) (image : List Byte) : List Byte :=
  be 1 part ++ be 1 (partCount image) ++ (image.drop (48 * part)).take 48

/-- A part of a snapshot (R175). -/
def readPart (part : Nat) (image : List Byte) : Result × List Byte :=
  if partCount image ≤ part then (.refused .range, []) else (.done, partData part image)

/-- Write the snapshot of an entry. -/
def State.setSnapshotOf (s : State) (entry : Nat) (snap : Snapshot) : State :=
  { s with ldr.snapshots := s.ldr.snapshots.set entry (some snap) }

/-- READ STATUS: the result and its data (R175). -/
def readStatus (entry selector part : Nat) (s : State) : Result × List Byte × State :=
  match statusImage entry selector s with
  | none => (.refused .range, [], s)
  | some image =>
    if part = 0 then
      let r := readPart 0 image
      (r.1, r.2, s.setSnapshotOf entry { selector, image })
    else
      match s.ldr.snapshots.getD entry none with
      | none => (.notFound, [], s)
      | some snap =>
        if snap.selector ≠ selector then (.notFound, [], s)
        else
          let r := readPart part snap.image
          (r.1, r.2, s)

end Sys2Proof.Machine
end

