-- ==== Sys2Proof/Machine/Requests.lean ====
section
/-! DEFINITION. The request executor: directives and their results (R146, R172, R173), the directive list with its room check
(R170 to R172), taking a REQUEST with its reserved reply place (R152, R154), and the disposition of a received telegram (R149). -/
namespace Sys2Proof.Machine

/-- What a directive answers: its result, the data it carries, and the state after it (R146). -/
structure Answer where
  result : Result
  data : List Byte
  state : State
  deriving DecidableEq, Repr

/-- An answer without data. -/
def plain (r : Result × State) : Answer := { result := r.1, data := [], state := r.2 }

/-- The data of a refusal made before a directive acts: one byte 0 for WRITE RUN and SET STATE, none otherwise (R172). -/
def refusalData : Directive → List Byte
  | .writeRun .. => [0]
  | .setState .. => [0]
  | _ => []

/-- A directive refused before it acts (R172). -/
def refuse (d : Directive) (r : Reason) (s : State) : Answer := { result := .refused r, data := refusalData d, state := s }

/-! Directives. -/

/-- The data of IDENTIFY: family code, revision, capacities (R174). -/
def identifyData : List Byte := [0x0E, 0x54, 1, 16, 8, 32, 5, 32, 8, 24, 4]

/-- READ TRACK (R24). -/
def readTrack (index : Nat) (s : State) : Answer :=
  if 15 < index then { result := .refused .range, data := [], state := s }
  else
    match s.trk.track[index]? with
    | none => { result := .notFound, data := be 1 s.trk.track.length, state := s }
    | some r => { result := .done, data := be 1 s.trk.track.length ++ boardImage r, state := s }

/-- The state a state filter names (R123). -/
def alarmStateMatches (n : Nat) (r : AlarmRecord) : Bool := alarmStateNum r.state == n

/-- The operands of READ ALARMS, read as numbers (R123). -/
structure AlarmFilter where
  enables : Byte
  kind : Nat
  source : Nat
  minSeverity : Nat
  state : Nat
  skip : Nat
  deriving DecidableEq, Repr

/-- The operands lie in their ranges, enabled or not (R123; log entry 12). -/
def AlarmFilter.valid (f : AlarmFilter) : Bool :=
  decide (1 ≤ f.kind) && decide (f.kind ≤ 26) && decide (f.minSeverity ≤ 3) && decide (f.state ≤ 2) && decide (f.skip ≤ 25)

/-- A record matches every enabled filter (R123; bits 0 to 3 of the enables byte). -/
def AlarmFilter.matches (f : AlarmFilter) (r : AlarmRecord) : Bool :=
  (!f.enables.getLsbD 0 || alarmKindNum r.kind == f.kind) && (!f.enables.getLsbD 1 || r.source == f.source) &&
    (!f.enables.getLsbD 2 || decide (f.minSeverity ≤ severityNum r.severity)) &&
    (!f.enables.getLsbD 3 || alarmStateMatches f.state r)

/-- READ ALARMS (R123). -/
def readAlarms (f : AlarmFilter) (s : State) : Answer :=
  if f.valid then
    let ms := (s.alm.records ++ s.alm.listFull.toList).filter f.matches
    { result := .done, data := be 1 ms.length ++ ((ms.drop f.skip).take 2).flatMap alarmImage, state := s }
  else { result := .refused .range, data := [], state := s }

/-- ACKNOWLEDGE of a pair (R122). -/
def acknowledgePair (kind source : Nat) (s : State) : Result × State :=
  match alarmKindOf kind with
  | none => (.refused .range, s)
  | some k =>
    match s.alarmFor k source with
    | none => (.notFound, s)
    | some _ => (.done, alarmAcknowledge k source s)

/-- ACKNOWLEDGE ALL: each record oldest first with its events, then LIST_FULL (R122; log entry 18). -/
def acknowledgeAll (s : State) : Result × State :=
  if s.alm.records.isEmpty && s.alm.listFull.isNone then (.notFound, s)
  else
    let s1 := s.alm.records.foldl (fun t r => settle (alarmAcknowledge r.kind r.source t)) s
    (.done, acknowledgeListFull s1)

/-- ACKNOWLEDGE by its form (R122). -/
def acknowledge (form kind source : Nat) (s : State) : Result × State :=
  match form with
  | 0 => acknowledgePair kind source s
  | 1 => acknowledgeAll s
  | _ => (.refused .range, s)

/-- SET STATE: the result, the check number and the state (R126); operand 4, SERVICE, is of SERVICE class. -/
def setState (entry src operand : Nat) (s : State) : Result × Nat × State :=
  match operand with
  | 0 => setIdle s
  | 1 => setWarmup s
  | 2 => setDrain s
  | 3 => setResume s
  | 4 => if s.isService entry src then setService s else (.refused .access, 0, s)
  | _ => (.refused .range, 0, s)

/-- SET ADDRESS, the class already checked; it must be the first directive of its request (R154). -/
def setAddress (first : Bool) (address : Nat) (s : State) : Result × State :=
  if s.net.addressOpen = false ∨ first = false then (.refused .state, s)
  else if 62 < address then (.refused .range, s)
  else (.done, { s with net.address := address })

/-- A SERVICE-class directive: REFUSED(ACCESS) without the class (R173). -/
def serviceOnly (entry src : Nat) (s : State) (f : State → Result × State) : Result × State :=
  if s.isService entry src then f s else (.refused .access, s)

/-- Execute one directive for a requesting entry (R172); its events are not yet taken. -/
def directive (entry src : Nat) (first : Bool) (d : Directive) (s : State) : Answer :=
  match d with
  | .identify => { result := .done, data := identifyData, state := s }
  | .readStatus sel part =>
    let r := readStatus entry sel.toNat part.toNat s
    { result := r.1, data := r.2.1, state := r.2.2 }
  | .setCursor t r0 r1 c0 c1 m => plain (setCursor entry t.toNat r0.toNat r1.toNat c0.toNat c1.toNat m.toNat s)
  | .writeRun more bytes =>
    let r := writeRun entry src more bytes s
    { result := r.1, data := be 1 r.2.1, state := r.2.2 }
  | .readRun n =>
    let r := readRun entry n.toNat s
    { result := r.1, data := r.2.1, state := r.2.2 }
  | .readTrack i => readTrack i.toNat s
  | .announceBoard row id => plain (announceBoard entry row.toNat id s)
  | .withdrawAnnounces => plain (.done, withdrawAnnounces s)
  | .purgeTrack => plain (purgeTrack s)
  | .readAlarms en k src' sev st skip =>
    readAlarms { enables := en, kind := k.toNat, source := src'.toNat, minSeverity := sev.toNat, state := st.toNat
                 skip := skip.toNat } s
  | .acknowledge form k src' => plain (acknowledge form.toNat k.toNat src'.toNat s)
  | .setState operand =>
    let r := setState entry src operand.toNat s
    { result := r.1, data := be 1 r.2.1, state := r.2.2 }
  | .manualOutput f v => plain (serviceOnly entry src s (manualOutput f.toNat v.toNat))
  | .clockHold => plain (.done, setClockRunning false s)
  | .clockSet d h m sec => plain (clockSet d.toNat h.toNat m.toNat sec.toNat s)
  | .clockRun => plain (.done, setClockRunning true s)
  | .lineRestart => plain (serviceOnly entry src s lineRestart)
  | .setAddress a => plain (serviceOnly entry src s (setAddress first a.toNat))

/-! The list. -/

/-- The bytes of an answer in the reply (R146). -/
def Answer.bytes (a : Answer) : List Byte := resultByte a.result :: a.data

/-- A truncated directive: REFUSED(RANGE), with a byte 0 for SET STATE, code 12 (R171, R172). -/
def truncatedBytes (code : Nat) : List Byte :=
  if code = 12 then [resultByte (.refused .range), 0] else [resultByte (.refused .range)]

/-- The room the reply-room check asks for: the directive's largest result and one byte for each directive after it (R146). -/
def roomFor (used after : Nat) (d : Directive) : Bool :=
  decide (largestResult d + after ≤ Config.payloadMax - (1 + used))

/-- The answer of one parsed directive whose turn has come: the room check, then the directive and its events (R146, R172). -/
def takeItem (entry src : Nat) (first : Bool) (used after : Nat) (d : Directive) (s : State) : Answer :=
  if roomFor used after d then
    let a := directive entry src first d s
    { a with state := settle a.state }
  else refuse d .full s

/-- The results of a parsed list from a listed station, in order, after those already there; stopped tells that an earlier
directive was REFUSED or UNKNOWN (R172). -/
def runItems (entry src : Nat) : List Item → Bool → Bool → List (List Byte) → State → List (List Byte) × State
  | [], _, _, acc, s => (acc, s)
  | item :: rest, first, stopped, acc, s =>
    if stopped then runItems entry src rest false true (acc ++ [[resultByte .skipped]]) s
    else
      match item with
      | .unknown => runItems entry src rest false true (acc ++ [[resultByte .unknown]]) s
      | .truncated code => runItems entry src rest false true (acc ++ [truncatedBytes code]) s
      | .dir d =>
        let a := takeItem entry src first acc.flatten.length rest.length d s
        runItems entry src rest false (stops a.result) (acc ++ [a.bytes]) a.state

/-- The result of an item for an unlisted source: REFUSED(ACCESS) (R170, R172). -/
def accessBytes : Item → List Byte
  | .dir d => resultByte (.refused .access) :: refusalData d
  | .unknown => [resultByte (.refused .access)]
  | .truncated code => if code = 12 then [resultByte (.refused .access), 0] else [resultByte (.refused .access)]

/-- The requesting entry of a source (R170). -/
def State.requestingEntry (s : State) (src : Nat) : Option Nat :=
  s.tab.station.findIdx? fun r => r.address == some src

/-- The results of a parsed list (R170, R172). -/
def runList (src : Nat) (items : List Item) (s : State) : List (List Byte) × State :=
  match s.requestingEntry src with
  | none => (items.map accessBytes, s)
  | some entry => runItems entry src items true false [] s

/-- The results that fit whole in so many bytes, in order, up to the first that does not (R146). -/
def fittingResults : Nat → List (List Byte) → List (List Byte)
  | _, [] => []
  | room, r :: rest => if r.length ≤ room then r :: fittingResults (room - r.length) rest else []

/-- The reply's payload, kept within 60 bytes: the sequence number and the results in order; of results that outgrow it, those
that fit whole, and a free value in the bytes left (R146; log entry 9). -/
def replyPayload (seq : Byte) (results : List (List Byte)) : List Byte :=
  let kept := fittingResults (Config.payloadMax - 1) results
  if kept = results then seq :: results.flatten
  else
    seq :: kept.flatten ++
      (Config.overfullReply (seq :: results.flatten)).take (Config.payloadMax - 1 - kept.flatten.length)

/-- The reply fills the reserved place (R152). -/
def fillReply (dest : Nat) (payload : List Byte) (s : State) : State :=
  let p := s.net.reserved.getD s.net.upNormal.length
  State.wakeUp { s with
    net.upNormal := s.net.upNormal.take p ++ [replyTelegram dest payload] ++ s.net.upNormal.drop p
    net.reserved := none }

/-- A REQUEST is taken: its reply's place is reserved, the list runs, the address closes, the reply fills its place (R152,
R154). -/
def takeRequest (src : Nat) (seq : Byte) (items : List Item) (s : State) : State :=
  let r := runList src items { s with net.reserved := some s.net.upNormal.length }
  fillReply src (replyPayload seq r.1) { r.2 with net.addressOpen := false }

/-- A REQUEST for the part arrives on UP: taken while the UP normal queue holds 15 or fewer, otherwise discarded with
LINK_OVERRUN (R149, R152). -/
def requestArrives (src : Nat) (seq : Byte) (items : List Item) (s : State) : State :=
  if s.upNormalOccupancy < Config.upNormalCapacity then takeRequest src seq items s else s.raise .linkOverrun 0 none

/-! Received telegrams. -/

/-- A well-formed OUTPUT from upstream: forwarded, intercepted, or forwarded with its owners marked (R167, R168). -/
def takeOutput (t : Received) (pairs : List (Nat × Nat)) (s : State) : State :=
  match s.ownersOf t.dest pairs with
  | [] => s.forward .up t.raw
  | f :: rest =>
    if s.line.state = .service then State.forward (markManual (f :: rest) s) .up t.raw
    else s.offerUpNormal (ownedReply t.source f)

/-- A well-formed broadcast SAMPLE: taken by the filter with its events, then absorbed or forwarded (R164). -/
def takeBroadcast (p : Port) (t : Received) (status : Nat) (pairs : List (Nat × Int)) (s : State) : State :=
  let s1 := settle (takeSample t.source status pairs s)
  if s.absorbs t.source pairs then s1 else s1.forward p t.raw

/-- The disposition of a good telegram: the first row of R149 that holds. -/
def dispose (p : Port) (t : Received) (s : State) : State :=
  if t.source = s.net.address then s
  else if t.dest = s.net.address then
    if t.kind = kindRequest ∧ p = .up then
      let r := parseRequest t.payload
      requestArrives t.source r.1 r.2 s
    else s
  else if t.dest = broadcast ∧ t.kind = kindSample then
    match readSample t.payload with
    | some (status, pairs) => takeBroadcast p t status pairs s
    | none => s.forward p t.raw
  else if p = .up ∧ t.kind = kindOutput then
    match readOutput t.payload with
    | some pairs => takeOutput t pairs s
    | none => s.forward p t.raw
  else s.forward p t.raw

/-- A run of telegram bytes ends at a port (R144, R149). No rule orders the link change of a telegram that brings its port's link UP
(R142, R143) and that telegram's disposition; the link change with its events first is the model's: DESIGN CHOICE (log entry 57),
unsafe. -/
def receiveRun (p : Port) (run : List Byte) (s : State) : State :=
  match checkRun run with
  | none => badTelegram p s
  | some t => dispose p t (settle (linkHeard p s))

/-- A good REQUEST for the part with one parsed directive arrives on UP (log entry 6): a source above 62 is a bad telegram, the
part's own address a telegram come back (R144, R149). The link is heard first (log entry 57). -/
def receiveDirective (r : Requester) (d : Directive) (s : State) : State :=
  if 62 < r.src.toNat then badTelegram .up s
  else
    let s1 := settle (linkHeard .up s)
    if r.src.toNat = s1.net.address then s1 else requestArrives r.src.toNat r.seq [.dir d] s1

end Sys2Proof.Machine
end

