-- ==== Sys2Proof/Machine/Timers.lean ====
section
/-! DEFINITION. One millisecond of the time base: what counts (R2, R6, R20, R40, R53, R57, R82, R88, R97, R99, R101, R128, R138,
R142, R161), and the expiries that come due (log entries 1, 13, 28). -/
namespace Sys2Proof.Machine

/-- One millisecond more on a timer: it stops at its limit; where a limit of 0 disables the expiry it counts on, modulo 2^32 as
every interval (R2; log entry 13). -/
def countOn (limit t : Nat) : Nat := if limit = 0 then (t + 1) % 4294967296 else satSucc limit t

/-- A timer that counts only while a condition holds (R2). -/
def countWhile (holds : Bool) (limit t : Nat) : Nat := if holds then countOn limit t else 0

/-- The tracker's timers (R6, R20). A limit raised after the stall timer's expiry lets the timer count on to the new limit,
without a second raise: DESIGN CHOICE (log entry 46), unsafe. -/
def countTracker (s : State) : State :=
  { s with
    trk.measTimer := satSucc Config.secondMs s.trk.measTimer
    trk.stallTimer := countWhile s.stallCounts s.stallMs s.trk.stallTimer }

/-- The spray-open total (R40). -/
def countSpray (s : State) : State :=
  { s with flux.sprayTotal := if s.flux.valveOpen then satSucc 4294967295 s.flux.sprayTotal else s.flux.sprayTotal }

/-- A loop's idle timer and heat-fail timer (R53, R57). -/
def countLoop (s : State) (i : Nat) (c : LoopCtx) : LoopCtx :=
  { c with
    idleTimer := countWhile (decide (i < 4) && s.idleCounts i) s.idleDelayMs c.idleTimer
    heatFailTimer := countWhile (s.heatFailCounts i) s.heatFailMs c.heatFailTimer }

/-- The heat controller's timers. -/
def countHeat (s : State) : State := { s with heat.loops := s.heat.loops.mapIdx fun i c => countLoop s i c }

/-- The pot controller's timers: the feed timer counts only in FEEDING and is frozen in PAUSED (R82, R83, R88). -/
def countPot (s : State) : State :=
  { s with
    pot.refresh := satSucc Config.secondMs s.pot.refresh
    pot.feedTimer := if s.pot.feeder = .feeding then
        s.pot.feedTimer.map fun t => { t with elapsed := countOn t.limit t.elapsed }
      else s.pot.feedTimer }

/-- The exhaust monitor's timers (R97, R99, R101). -/
def countExhaust (s : State) : State :=
  { s with
    exh.refresh := satSucc Config.secondMs s.exh.refresh
    exh.runOn := s.exh.runOn.map fun e => countOn s.runOnMs e
    exh.flowTimer := if s.flowCounts then countOn s.flowLowMs s.exh.flowTimer else s.exh.flowTimer }

/-- The line controller's timers (R128, R138). -/
def countLine (s : State) : State :=
  { s with
    line.second := satSucc Config.secondMs s.line.second
    line.settle := countWhile s.settleHolds s.settleMs s.line.settle }

/-- The silence timers (R142). -/
def countLinks (s : State) : State :=
  { s with
    net.upSilence := satSucc Config.silenceLimit s.net.upSilence
    net.downSilence := satSucc Config.silenceLimit s.net.downSilence }

/-- The age timers (R161). -/
def countAges (s : State) : State :=
  { s with filt.entries := s.filt.entries.mapIdx fun e c =>
      if s.ageRuns e then { c with age := satSucc (s.entryRow e).ageLimit c.age } else c }

/-- Every timer one millisecond on. -/
def countAll (s : State) : State :=
  countAges (countLinks (countLine (countExhaust (countPot (countHeat (countSpray
    (countTracker { s with time := s.time + 1 })))))))

/-! Expiries. -/

/-- The heat-fail timer of a loop can expire (R57). -/
def State.heatFailArmed (s : State) (i : Nat) : Bool := s.heatFailCounts i && !(s.loopCtx i).heatFail

/-- The idle timer of a zone can expire: it counts, the delay is above 0 and it is short of its limit (R53). -/
def State.idleArmed (s : State) (i : Nat) : Bool :=
  s.idleCounts i && decide (0 < s.idleDelayMs) && decide ((s.loopCtx i).idleTimer < s.idleDelayMs)

/-- The idle timer has reached its limit and the target is not yet the setback (R53). -/
def State.idleDue (s : State) (i : Nat) : Bool := s.idleExpired i && (s.loopCtx i).target != s.setback i

/-- The heat-fail timer has reached its limit (R57). -/
def State.heatFailDue (s : State) (i : Nat) : Bool :=
  s.heatFailArmed i && decide (s.heatFailMs ≤ (s.loopCtx i).heatFailTimer)

/-- The feed timer has reached its limit (R82). -/
def State.feedDue (s : State) : Bool :=
  s.feedRuns && (match s.pot.feedTimer with
    | none => false
    | some t => decide (t.limit ≤ t.elapsed))

/-- The run-on has reached its limit (R97). -/
def State.runOnDue (s : State) : Bool :=
  match s.exh.runOn with
  | none => false
  | some e => decide (s.runOnMs ≤ e)

/-- An entry's age timer has reached its limit (R161). -/
def State.ageDue (s : State) (e : Nat) : Bool :=
  s.ageRuns e && decide ((s.entryRow e).ageLimit ≤ (s.entryCtx e).age)

/-- The settle timer's expiry: the line becomes READY (R128). -/
def settleExpire (s : State) : State := enterLine .ready .settleTimer s

/-- An expiry that is due, with its events. -/
def whenDue (due : Bool) (f : State → State) (s : State) : State := if due then settle (f s) else s

/-- A family of expiries, lowest index first. -/
def whenDueEach (n : Nat) (due : State → Nat → Bool) (f : Nat → State → State) (s : State) : State :=
  (List.range n).foldl (fun t i => whenDue (due t i) (f i) t) s

/-- The tracker's, heat controller's and pot controller's expiries, in the order of the opcode table (log entry 1). -/
def expireFirst (s : State) : State :=
  let s1 := whenDue (decide (Config.secondMs ≤ s.trk.measTimer)) measureSpeed s
  let s2 := whenDue (s1.stallArmed && decide (s1.stallMs ≤ s1.trk.stallTimer)) stallExpire s1
  let s3 := whenDueEach 4 State.idleDue idleExpire s2
  let s4 := whenDueEach 5 State.heatFailDue heatFailExpire s3
  let s5 := whenDue s4.feedDue feedExpire s4
  whenDue (decide (Config.secondMs ≤ s5.pot.refresh)) potRefresh s5

/-- The other expiries, in the order of the opcode table (log entry 1). Of two silence timers that expire in one millisecond, UP
is taken before DOWN, so that no FIELD_LINK_LOST notice is offered: DESIGN CHOICE (log entry 42), unsafe. -/
def expireRest (s : State) : State :=
  let s1 := whenDue (s.flowCounts && decide (s.flowLowMs ≤ s.exh.flowTimer)) flowExpire s
  let s2 := whenDue s1.runOnDue runOnExpire s1
  let s3 := whenDue (decide (Config.secondMs ≤ s2.exh.refresh)) exhaustRefresh s2
  let s4 := whenDue (s3.settleHolds && decide (s3.settleMs ≤ s3.line.settle)) settleExpire s3
  let s5 := whenDue (decide (Config.secondMs ≤ s4.line.second)) secondExpire s4
  let s6 := whenDue (s5.net.upLink && decide (Config.silenceLimit ≤ s5.net.upSilence)) (linkLost .up) s5
  let s7 := whenDue (s6.net.downLink && decide (Config.silenceLimit ≤ s6.net.downSilence)) (linkLost .down) s6
  whenDueEach 32 State.ageDue ageExpire s7

/-- One millisecond: the part's own time passes while no command waits (log entry 1). -/
def tick (s : State) : State := expireRest (expireFirst (countAll s))

end Sys2Proof.Machine
end

