-- ==== Sys2Proof/Machine/Commands.lean ====
section
/-! DEFINITION. The meaning of each command, one definition per row of spec/opcode_table.json: the block's own effect, then
every internal event it leads to (settle). A directive row is a good REQUEST with that one directive, arriving on UP from the
requester (log entry 6). The queue of commands is left alone. -/
namespace Sys2Proof.Machine

/-- DEVICE_RESET: every block at its device reset values, the levels of the lines and the straps sampled (R27, R42, R61, R76, R95,
R124, R125, R154, R156, R169, R183); waiting commands stay (log entry 21). -/
def execDeviceReset (encA encB eye : Bool) (straps : BitVec 6) (s : State) : Host.Outcome State Fault Refusal :=
  .next (deviceReset encA encB eye straps s)

/-- ENCODER_TRANSITION (R3 to R5). -/
def execEncoderTransition (a b : Bool) (s : State) : Host.Outcome State Fault Refusal :=
  .next (settle (encoderLevels a b s))

/-- EYE_CHANGE (R7). -/
def execEyeChange (blocked : Bool) (s : State) : Host.Outcome State Fault Refusal :=
  .next (settle (eyeLevel blocked s))

/-- SPEED_MEASUREMENT (R6, R21). -/
def execSpeedMeasurement (s : State) : Host.Outcome State Fault Refusal :=
  .next (settle (measureSpeed s))

/-- CONVEYOR_STALL: the expiry of the stall timer, where it can expire (R20; log entry 2). -/
def execConveyorStall (s : State) : Host.Outcome State Fault Refusal :=
  .next (if s.stallArmed then settle (stallExpire s) else s)

/-- IDLE_TIMER_EXPIRY: the expiry of a zone's idle timer, where it can expire (R53; log entry 2). -/
def execIdleTimerExpiry (zone : Fin 4) (s : State) : Host.Outcome State Fault Refusal :=
  .next (if s.idleArmed zone.val then settle (idleExpire zone.val s) else s)

/-- HEAT_FAIL: the expiry of a loop's heat-fail timer, where it can expire (R57; log entry 2). -/
def execHeatFail (loop : Fin 5) (s : State) : Host.Outcome State Fault Refusal :=
  .next (if s.heatFailArmed loop.val then settle (heatFailExpire loop.val s) else s)

/-- FEED_TIMER_EXPIRY: the expiry of the feed timer, where it can expire (R82; log entry 2). -/
def execFeedTimerExpiry (s : State) : Host.Outcome State Fault Refusal :=
  .next (if s.feedRuns then settle (feedExpire s) else s)

/-- POT_REFRESH_TIMER_EXPIRY (R88). -/
def execPotRefreshTimerExpiry (s : State) : Host.Outcome State Fault Refusal :=
  .next (settle (potRefresh s))

/-- FLOW_LOW_TIMER_EXPIRY: the expiry of the flow-low timer, where it can expire (R102; log entry 2). -/
def execFlowLowTimerExpiry (s : State) : Host.Outcome State Fault Refusal :=
  .next (if s.flowCounts then settle (flowExpire s) else s)

/-- RUN_ON_TIMER_EXPIRY: the expiry of a run-on that is present (R97; log entry 2). -/
def execRunOnTimerExpiry (s : State) : Host.Outcome State Fault Refusal :=
  .next (if s.exh.runOn.isSome then settle (runOnExpire s) else s)

/-- EXHAUST_REFRESH_TIMER_EXPIRY (R99). -/
def execExhaustRefreshTimerExpiry (s : State) : Host.Outcome State Fault Refusal :=
  .next (settle (exhaustRefresh s))

/-- SETTLE_TIMER_EXPIRY: the expiry of the settle timer while its condition holds (R128; log entry 2). -/
def execSettleTimerExpiry (s : State) : Host.Outcome State Fault Refusal :=
  .next (if s.settleHolds then settle (settleExpire s) else s)

/-- SECOND_TIMER_EXPIRY (R135, R138). -/
def execSecondTimerExpiry (s : State) : Host.Outcome State Fault Refusal :=
  .next (settle (secondExpire s))

/-- LINK_DOWN: the expiry of the silence timer of a port whose link is UP (R142, R143; log entry 2). -/
def execLinkDown (p : Port) (s : State) : Host.Outcome State Fault Refusal :=
  .next (if s.linkUp p then settle (linkLost p s) else s)

/-- LINK_UP: a port hears idle fill or a good telegram and its link is UP (R142, R143). -/
def execLinkUp (p : Port) (s : State) : Host.Outcome State Fault Refusal :=
  .next (settle (linkHeard p s))

/-- TELEGRAM_RECEIVED (R144, R149). -/
def execTelegramReceived (p : Port) (run : List Byte) (s : State) : Host.Outcome State Fault Refusal :=
  .next (settle (receiveRun p run s))

/-- AGE_TIMER_EXPIRY: the expiry of an entry's age timer, where it runs (R161; log entry 2). -/
def execAgeTimerExpiry (entry : Fin 32) (s : State) : Host.Outcome State Fault Refusal :=
  .next (if s.ageRuns entry.val then settle (ageExpire entry.val s) else s)

/-- TELEGRAM_BOUNDARY (R141, R153; log entry 27). -/
def execTelegramBoundary (p : Port) (s : State) : Host.Outcome State Fault Refusal :=
  .next (settle (boundary p s))

/-- IDENTIFY (R174). -/
def execIdentify (r : Requester) (s : State) : Host.Outcome State Fault Refusal :=
  .next (settle (receiveDirective r .identify s))

/-- READ STATUS (R175). -/
def execReadStatus (r : Requester) (selector part : Byte) (s : State) : Host.Outcome State Fault Refusal :=
  .next (settle (receiveDirective r (.readStatus selector part) s))

/-- SET CURSOR (R178). -/
def execSetCursor (r : Requester) (table firstRow lastRow firstCol lastCol mode : Byte) (s : State) : Host.Outcome State Fault Refusal :=
  .next (settle (receiveDirective r (.setCursor table firstRow lastRow firstCol lastCol mode) s))

/-- WRITE RUN (R179). -/
def execWriteRun (r : Requester) (values : List (BitVec 16)) (s : State) : Host.Outcome State Fault Refusal :=
  .next (settle (receiveDirective r (.writeRun false (values.flatMap fun v => be 2 v.toNat)) s))

/-- READ RUN (R181). -/
def execReadRun (r : Requester) (count : Byte) (s : State) : Host.Outcome State Fault Refusal :=
  .next (settle (receiveDirective r (.readRun count) s))

/-- READ TRACK (R24). -/
def execReadTrack (r : Requester) (index : Byte) (s : State) : Host.Outcome State Fault Refusal :=
  .next (settle (receiveDirective r (.readTrack index) s))

/-- ANNOUNCE BOARD (R9). -/
def execAnnounceBoard (r : Requester) (row : Byte) (id : List Byte) (s : State) : Host.Outcome State Fault Refusal :=
  .next (settle (receiveDirective r (.announceBoard row id) s))

/-- WITHDRAW ANNOUNCES (R10). -/
def execWithdrawAnnounces (r : Requester) (s : State) : Host.Outcome State Fault Refusal :=
  .next (settle (receiveDirective r .withdrawAnnounces s))

/-- PURGE TRACK (R23). -/
def execPurgeTrack (r : Requester) (s : State) : Host.Outcome State Fault Refusal :=
  .next (settle (receiveDirective r .purgeTrack s))

/-- READ ALARMS (R123). -/
def execReadAlarms (r : Requester) (enables kind : Byte) (source : BitVec 16) (minSeverity state skip : Byte) (s : State) : Host.Outcome State Fault Refusal :=
  .next (settle (receiveDirective r (.readAlarms enables kind source minSeverity state skip) s))

/-- ACKNOWLEDGE of a pair (R122). -/
def execAcknowledge (r : Requester) (kind : Byte) (source : BitVec 16) (s : State) : Host.Outcome State Fault Refusal :=
  .next (settle (receiveDirective r (.acknowledge 0 kind source) s))

/-- ACKNOWLEDGE ALL (R122). -/
def execAcknowledgeAll (r : Requester) (s : State) : Host.Outcome State Fault Refusal :=
  .next (settle (receiveDirective r (.acknowledge 1 0 0) s))

/-- SET STATE IDLE (R126). -/
def execSetStateIdle (r : Requester) (s : State) : Host.Outcome State Fault Refusal :=
  .next (settle (receiveDirective r (.setState 0) s))

/-- SET STATE WARMUP (R126, R127). -/
def execSetStateWarmup (r : Requester) (s : State) : Host.Outcome State Fault Refusal :=
  .next (settle (receiveDirective r (.setState 1) s))

/-- SET STATE DRAIN (R126). -/
def execSetStateDrain (r : Requester) (s : State) : Host.Outcome State Fault Refusal :=
  .next (settle (receiveDirective r (.setState 2) s))

/-- SET STATE RESUME (R126). -/
def execSetStateResume (r : Requester) (s : State) : Host.Outcome State Fault Refusal :=
  .next (settle (receiveDirective r (.setState 3) s))

/-- SET STATE SERVICE (R126). -/
def execSetStateService (r : Requester) (s : State) : Host.Outcome State Fault Refusal :=
  .next (settle (receiveDirective r (.setState 4) s))

/-- MANUAL OUTPUT (R136). -/
def execManualOutput (r : Requester) (function : Byte) (value : BitVec 16) (s : State) : Host.Outcome State Fault Refusal :=
  .next (settle (receiveDirective r (.manualOutput function value) s))

/-- CLOCK HOLD (R139). -/
def execClockHold (r : Requester) (s : State) : Host.Outcome State Fault Refusal :=
  .next (settle (receiveDirective r .clockHold s))

/-- CLOCK SET (R139). -/
def execClockSet (r : Requester) (days : BitVec 16) (hours minutes seconds : Byte) (s : State) : Host.Outcome State Fault Refusal :=
  .next (settle (receiveDirective r (.clockSet days hours minutes seconds) s))

/-- CLOCK RUN (R139). -/
def execClockRun (r : Requester) (s : State) : Host.Outcome State Fault Refusal :=
  .next (settle (receiveDirective r .clockRun s))

/-- LINE RESTART (R137). -/
def execLineRestart (r : Requester) (s : State) : Host.Outcome State Fault Refusal :=
  .next (settle (receiveDirective r .lineRestart s))

/-- SET ADDRESS (R154). -/
def execSetAddress (r : Requester) (address : Byte) (s : State) : Host.Outcome State Fault Refusal :=
  .next (settle (receiveDirective r (.setAddress address) s))

/-- IDLE_FILL_RECEPTION: a port hears an idle fill symbol (R142). -/
def execIdleFillReception (p : Port) (s : State) : Host.Outcome State Fault Refusal :=
  .next (settle (linkHeard p s))

end Sys2Proof.Machine
end

