-- ==== Sys2Proof/Machine/Dispatch.lean ====
section
/-! DEFINITION. One arm per command: the call of its meaning. -/
namespace Sys2Proof.Machine
open Sys2Proof

def exec (i : Instr) (s : State) : Host.Outcome State Fault Refusal :=
  match i with
  | .deviceReset encA encB eye straps => Sys2Proof.Machine.execDeviceReset encA encB eye straps s
  | .encoderTransition a b => Sys2Proof.Machine.execEncoderTransition a b s
  | .eyeChange blocked => Sys2Proof.Machine.execEyeChange blocked s
  | .speedMeasurement => Sys2Proof.Machine.execSpeedMeasurement s
  | .conveyorStall => Sys2Proof.Machine.execConveyorStall s
  | .idleTimerExpiry zone => Sys2Proof.Machine.execIdleTimerExpiry zone s
  | .heatFail loop => Sys2Proof.Machine.execHeatFail loop s
  | .feedTimerExpiry => Sys2Proof.Machine.execFeedTimerExpiry s
  | .potRefreshTimerExpiry => Sys2Proof.Machine.execPotRefreshTimerExpiry s
  | .flowLowTimerExpiry => Sys2Proof.Machine.execFlowLowTimerExpiry s
  | .runOnTimerExpiry => Sys2Proof.Machine.execRunOnTimerExpiry s
  | .exhaustRefreshTimerExpiry => Sys2Proof.Machine.execExhaustRefreshTimerExpiry s
  | .settleTimerExpiry => Sys2Proof.Machine.execSettleTimerExpiry s
  | .secondTimerExpiry => Sys2Proof.Machine.execSecondTimerExpiry s
  | .linkDown p => Sys2Proof.Machine.execLinkDown p s
  | .linkUp p => Sys2Proof.Machine.execLinkUp p s
  | .telegramReceived p run => Sys2Proof.Machine.execTelegramReceived p run s
  | .ageTimerExpiry entry => Sys2Proof.Machine.execAgeTimerExpiry entry s
  | .telegramBoundary p => Sys2Proof.Machine.execTelegramBoundary p s
  | .identify r => Sys2Proof.Machine.execIdentify r s
  | .readStatus r selector part => Sys2Proof.Machine.execReadStatus r selector part s
  | .setCursor r table firstRow lastRow firstCol lastCol mode => Sys2Proof.Machine.execSetCursor r table firstRow lastRow firstCol lastCol mode s
  | .writeRun r values => Sys2Proof.Machine.execWriteRun r values s
  | .readRun r count => Sys2Proof.Machine.execReadRun r count s
  | .readTrack r index => Sys2Proof.Machine.execReadTrack r index s
  | .announceBoard r row id => Sys2Proof.Machine.execAnnounceBoard r row id s
  | .withdrawAnnounces r => Sys2Proof.Machine.execWithdrawAnnounces r s
  | .purgeTrack r => Sys2Proof.Machine.execPurgeTrack r s
  | .readAlarms r enables kind source minSeverity state skip => Sys2Proof.Machine.execReadAlarms r enables kind source minSeverity state skip s
  | .acknowledge r kind source => Sys2Proof.Machine.execAcknowledge r kind source s
  | .acknowledgeAll r => Sys2Proof.Machine.execAcknowledgeAll r s
  | .setStateIdle r => Sys2Proof.Machine.execSetStateIdle r s
  | .setStateWarmup r => Sys2Proof.Machine.execSetStateWarmup r s
  | .setStateDrain r => Sys2Proof.Machine.execSetStateDrain r s
  | .setStateResume r => Sys2Proof.Machine.execSetStateResume r s
  | .setStateService r => Sys2Proof.Machine.execSetStateService r s
  | .manualOutput r function value => Sys2Proof.Machine.execManualOutput r function value s
  | .clockHold r => Sys2Proof.Machine.execClockHold r s
  | .clockSet r days hours minutes seconds => Sys2Proof.Machine.execClockSet r days hours minutes seconds s
  | .clockRun r => Sys2Proof.Machine.execClockRun r s
  | .lineRestart r => Sys2Proof.Machine.execLineRestart r s
  | .setAddress r address => Sys2Proof.Machine.execSetAddress r address s
  | .idleFillReception p => Sys2Proof.Machine.execIdleFillReception p s

end Sys2Proof.Machine
end

