-- ==== Sys2Proof/Safety.lean ====
section
/-! DEFINITION. What a run keeps, in the terms the statements use: the tracker's bookkeeping, the heater duties, the feeder, the
driven lines, the queues, the alarm list; and what the internal events of a command leave alone. -/
namespace Sys2Proof.Safety
open Sys2Proof Sys2Proof.Machine

/-! Tracker (R8, R11, R14, R15, R26). -/

/-- The track records and announce entries that name a row (R15). -/
def namers (s : State) (row : Row) : Nat :=
  s.trk.track.countP (fun r => r.recipe == some row) + s.trk.announces.countP (fun a => a.row == row)

/-- Every row's pin count is the number of records and announces that name it (R15). -/
def PinsRight (s : State) : Prop := s.trk.pins.length = 32 ∧ ∀ row : Row, s.trk.pins.getD row.val 0 = namers s row

/-- entered - exited - purged is the number of records, modulo 65536 (R26). -/
def CountersRight (s : State) : Prop :=
  s.trk.entered - s.trk.exited - s.trk.purged = BitVec.ofNat 16 s.trk.track.length

/-- The tags of n neighbouring records from a first tag on (R11). -/
def tagsFrom (t : Tag) (n : Nat) : List Tag := (List.range n).map fun i => t + BitVec.ofNat 16 i

/-- The tags rise by one from record to record, and the tag counter follows the newest (R11, R12). -/
def TagsRight (s : State) : Prop :=
  s.trk.track.map (fun r => r.tag) =
    tagsFrom (s.trk.nextTag - BitVec.ofNat 16 s.trk.track.length) s.trk.track.length

/-- Only the newest record may lack a trail, and none does while the confirmed eye level is CLEAR; a candidate has the level
the eye changed to (R7, R11). -/
def TrailsRight (s : State) : Prop :=
  (∀ r ∈ s.trk.track.dropLast, r.trail.isSome = true) ∧
    (s.trk.eyeBlocked = false → ∀ r ∈ s.trk.track, r.trail.isSome = true) ∧
    (∀ c, s.trk.candidate = some c → c.blocked = !s.trk.eyeBlocked)

/-- The tracker's bookkeeping. -/
structure TrackerInv (s : State) : Prop where
  track : s.trk.track.length ≤ 16
  announces : s.trk.announces.length ≤ 8
  pins : PinsRight s
  counters : CountersRight s
  tags : TagsRight s
  trails : TrailsRight s

/-! Heater loops (R45, R58, R59, R63). -/

/-- One loop: its state is the one R45 derives, its duty is within 0 to K2, 0 unless ACTIVE or MANUAL, and 0 for a zone loop in
IDLE and STOPPED; a manual duty stands only in SERVICE and within K2; the integrator is within K2 × 256. -/
structure LoopInv (s : State) (i : Nat) : Prop where
  state : (s.loopCtx i).state = s.derivedLoopState i
  duty : (s.loopCtx i).duty ≤ s.K i 2
  rest : (s.loopCtx i).state = .off ∨ (s.loopCtx i).state = .fault → (s.loopCtx i).duty = 0
  cold : i < 4 → s.line.state = .idle ∨ s.line.state = .stopped → (s.loopCtx i).duty = 0
  manual : ∀ m, (s.loopCtx i).manual = some m → m ≤ s.K i 2 ∧ s.line.state = .service
  integrator : (s.loopCtx i).integrator ≤ s.K i 2 * 256

/-- The five loops. -/
structure HeatInv (s : State) : Prop where
  five : s.heat.loops.length = 5
  each : ∀ i, i < 5 → LoopInv s i

/-! Pot (R79, R84, R87). -/

/-- The feeder: a drive only in FEEDING; no FEEDING with the gate OPEN; IDLE, FEEDING and PAUSED only without an off cause;
JAMMED exactly while the jam latch is set. The pump: no command while LEVEL_CRITICAL is present or has a record, nor in IDLE or
STOPPED, nor outside SERVICE with the pot not molten, unless the report of that change still waits among the internal events. -/
structure PotInv (s : State) : Prop where
  drive : s.pot.feedDrive ≠ 0 → s.pot.feeder = .feeding
  gate : s.pot.feeder = .feeding → s.pot.gateBoard = none
  running : s.pot.feeder = .idle ∨ s.pot.feeder = .feeding ∨ s.pot.feeder = .paused → s.feederOffCause = false
  jam : s.pot.jam = true ↔ s.pot.feeder = .jammed
  pump : s.pot.pump ≠ 0 →
    s.pot.condCritical = false ∧ s.pot.criticalRecord = false ∧ s.line.state ≠ .idle ∧ s.line.state ≠ .stopped
  molten : s.pot.pump ≠ 0 → s.line.state = .service ∨ s.heat.potMolten = true ∨ .potMoltenChanged ∈ s.events

/-! Exhaust (R96, R99, R101). -/

/-- Fan demand and the fan command are the derived ones; the flow-low timer stays within the flow-low limit; with demand OFF the
supervision is in stage 1 with the timer at 0 and neither flow condition present; the expiry of stage 2 is marked as taken only
in stage 2. -/
structure ExhaustInv (s : State) : Prop where
  demand : s.exh.demand = s.derivedDemand
  fan : s.exh.fan = s.derivedFan
  timer : s.exh.flowTimer ≤ s.flowLowMs
  rest : s.exh.demand = false →
    s.exh.flowTimer = 0 ∧ s.exh.stage = .one ∧ s.exh.condFlowLow = false ∧ s.exh.condLoss = false
  taken : s.exh.lossTaken = true → s.exh.stage = .two

/-! Driven lines (R33, R34, R115, R116, R129, R131, R134, R135). -/

/-- The holding severity and WARN indication an internal event publishes, if it is a publication (R115). -/
def publication : Event → Option (Option Severity × Bool)
  | .published h w => some (h, w)
  | _ => none

/-- The publications that wait among the internal events, oldest first. -/
def publications (s : State) : List (Option Severity × Bool) := s.events.filterMap publication

/-- The direct lines follow what drives them: SPRAY the valve, which is open only while the spray is eligible; HOLD the state
STOPPED; TRIP a holding STOP of the alarm list; PERMIT only in READY with the changeover hold clear, and, while no position advance
and no record change waits among the internal events, exactly in READY with fewer than 16 records, the entry gap L16 behind the
newest one and the hold clear; the lamps. The last publication that waits, or else what the line controller holds, is what the
alarm unit holds; a line that holds a STOP is STOPPED or IDLE, and so, while no publication waits, is the line while an unmasked
record of severity STOP exists. -/
structure LinesInv (s : State) : Prop where
  spray : s.pins.spray = s.flux.valveOpen
  eligible : s.flux.eligible = s.sprayEligible
  valve : s.flux.valveOpen = true → s.sprayEligible = true
  hold : s.pins.hold = decide (s.line.state = .stopped)
  holding : s.alm.holding = s.alm.holdingNow
  warn : s.alm.warn = s.alm.warnNow
  trip : s.pins.trip = decide (s.alm.holdingNow = some .stop)
  published : (publications s).getLast?.getD (s.line.holding, s.line.warn) = (s.alm.holding, s.alm.warn)
  held : publications s = [] → s.line.holding = s.alm.holding ∧ s.line.warn = s.alm.warn
  stopped : s.line.holding = some .stop → s.line.state = .stopped ∨ s.line.state = .idle
  stop : publications s = [] → (∃ r ∈ s.alm.records ++ s.alm.listFull.toList, r.masked = false ∧ r.severity = .stop) →
    s.line.state = .stopped ∨ s.line.state = .idle
  permit : s.pins.permit = true → s.line.state = .ready ∧ s.line.changeover = false
  permitWhole : .advance ∈ s.events ∨ .recordChange false ∈ s.events ∨ .recordChange true ∈ s.events ∨
    (s.pins.permit = true ↔ s.line.state = .ready ∧ s.trk.track.length < 16 ∧
      (∀ r, s.trk.track.getLast? = some r → ∃ p, r.trail = some p ∧ s.L 16 ≤ (s.trk.position - p).toNat) ∧
      s.line.changeover = false)
  lampG : s.pins.lampG = lampGreen s.line.state
  lampA : s.pins.lampA = lampAmber s.line.state s.line.warn
  lampR : s.pins.lampR = lampRed s.line.state s.line.holding

/-! Queues (R150 to R153). -/

/-- The capacities and the one-place-per-function rules of the loop interface. -/
structure QueueInv (s : State) : Prop where
  downFifo : s.net.downFifo.length ≤ 4
  upFifo : s.net.upFifo.length ≤ 4
  downUrgent : s.net.downUrgent.Nodup
  downSlots : (s.net.downSlots.map fun p => p.1).Nodup
  upUrgent : s.net.upUrgent.length ≤ 8
  upNormal : s.upNormalOccupancy ≤ 16
  upFair : s.net.upFair ≤ 4
  downFair : s.net.downFair ≤ 4

/-! Alarm list (R119). -/

/-- At most one record per kind and source, at most 24 besides LIST_FULL, and LIST_FULL only in its own slot, never masked. -/
structure AlarmInv (s : State) : Prop where
  once : (s.alm.records.map fun r => (r.kind, r.source)).Nodup
  room : s.alm.records.length ≤ 24
  own : ∀ r ∈ s.alm.records, r.kind ≠ .listFull
  slot : ∀ r, s.alm.listFull = some r → r.kind = .listFull ∧ r.source = 0 ∧ r.masked = false

/-! What internal events leave alone. -/

/-- A board record without what other blocks report into it: flux state, exposure, wave fields and flags (R11). -/
def boardCore (r : BoardRecord) : BoardRecord :=
  { r with flux := .none, exposure := [], waveEntry := none, waveTemp := none, dwell := none, flags := {} }

/-- The part of the state no internal event changes: the time base; the tracker but its stall timer and what blocks report into
its records; the line clock and second timer; links, silence timers, bad-telegram counts, address; the filter's entries and
node faults; the loader; every table; the waiting commands. All the rest reads as at reset. -/
def still (s : State) : State :=
  { State.reset with
    time := s.time
    trk := { s.trk with stallTimer := 0, track := s.trk.track.map boardCore }
    line := { second := s.line.second, clockRunning := s.line.clockRunning, clock := s.line.clock }
    net := {
      upLink := s.net.upLink, downLink := s.net.downLink, upSilence := s.net.upSilence, downSilence := s.net.downSilence,
      upBad := s.net.upBad, downBad := s.net.downBad, address := s.net.address, addressOpen := s.net.addressOpen }
    filt := { s.filt with marks := List.replicate 8 false }
    ldr := s.ldr
    tab := s.tab
    pending := s.pending }

/-! A request that is taken. -/

/-- A one-directive REQUEST of a listed station is taken: no event waits, the UP link is UP, the source is a station other than
the part, no place is reserved and the UP normal queue has a free place, and entry e of the station table holds the source. -/
structure Accepts (r : Requester) (e : Nat) (s : State) : Prop where
  quiet : s.events = []
  link : s.net.upLink = true
  station : r.src.toNat ≤ 62
  other : r.src.toNat ≠ s.net.address
  free : s.net.reserved = none
  room : s.net.upNormal.length < 16
  entry : s.requestingEntry r.src.toNat = some e

/-- The state in which a taken request's directive runs: the silence timer restarted, the reply's place reserved (R142, R152). -/
def taken (s : State) : State := { s with net.upSilence := 0, net.reserved := some s.net.upNormal.length }

/-- The end of a taken request with one directive: the address-open flag is cleared and the reply, the sequence number and the
result bytes, fills its place (R146, R152, R154). -/
def answered (r : Requester) (bytes : List Byte) (s : State) : State :=
  fillReply r.src.toNat (replyPayload r.seq [bytes]) { s with net.addressOpen := false }

/-! The telegram of a directive command (R146, R171). -/

/-- The requester of a directive command and the bytes of its one directive in the REQUEST payload, after the sequence number:
the control byte with the more flag clear, then the operands in the order of the directive index. -/
def requestOf : Instr → Option (Requester × List Byte)
  | .identify r => some (r, [1])
  | .readStatus r selector part => some (r, [2, selector, part])
  | .setCursor r t r0 r1 c0 c1 m => some (r, [3, t, r0, r1, c0, c1, m])
  | .writeRun r values => some (r, 4 :: values.flatMap fun v => be 2 v.toNat)
  | .readRun r count => some (r, [5, count])
  | .readTrack r index => some (r, [6, index])
  | .announceBoard r row id => some (r, 7 :: row :: BitVec.ofNat 8 id.length :: id)
  | .withdrawAnnounces r => some (r, [8])
  | .purgeTrack r => some (r, [9])
  | .readAlarms r en k src sev st skip => some (r, [10, en, k] ++ be 2 src.toNat ++ [sev, st, skip])
  | .acknowledge r k src => some (r, [11, 0, k] ++ be 2 src.toNat)
  | .acknowledgeAll r => some (r, [11, 1, 0, 0, 0])
  | .setStateIdle r => some (r, [12, 0])
  | .setStateWarmup r => some (r, [12, 1])
  | .setStateDrain r => some (r, [12, 2])
  | .setStateResume r => some (r, [12, 3])
  | .setStateService r => some (r, [12, 4])
  | .manualOutput r f v => some (r, [13, f] ++ be 2 v.toNat)
  | .clockHold r => some (r, [14])
  | .clockSet r d h m sec => some (r, [15] ++ be 2 d.toNat ++ [h, m, sec])
  | .clockRun r => some (r, [16])
  | .lineRestart r => some (r, [17])
  | .setAddress r a => some (r, [18, a])
  | _ => none

/-- The commands that can take the line out of IDLE or STOPPED: the reset, SET STATE, LINE RESTART, and a telegram on UP, which
may carry them (R126, R129, R137). -/
def movesLine : Instr → Bool
  | .deviceReset .. => true
  | .setStateIdle _ | .setStateWarmup _ | .setStateDrain _ | .setStateResume _ | .setStateService _ => true
  | .lineRestart _ => true
  | .telegramReceived .up _ => true
  | _ => false

end Sys2Proof.Safety
end

