-- ==== Sys2Proof/WellFormed.lean ====
section
/-! DEFINITION. Which commands can reach the part: the operand bounds the manual puts on what a telegram carries. The
meanings are total and do not need these checks; they say what the environment may send. -/
namespace Sys2Proof

/-- A requester is a station: the source of a telegram is 0 to 62 (R144). -/
def Requester.wellFormed (r : Requester) : Bool := decide (r.src.toNat ≤ 62)

/-- The bytes of a directive fit a REQUEST payload beside the sequence number and the control byte (R144, R146). -/
def fitsPayload (operandBytes : Nat) : Bool := decide (operandBytes + 2 ≤ Config.payloadMax)

/-- The board id's length is its operand's one byte and the id fits the payload with the row (R9, R171). -/
def Instr.wellFormed : Instr → Bool
  | .deviceReset .. => true
  | .encoderTransition .. => true
  | .eyeChange .. => true
  | .speedMeasurement => true
  | .conveyorStall => true
  | .idleTimerExpiry .. => true
  | .heatFail .. => true
  | .feedTimerExpiry => true
  | .potRefreshTimerExpiry => true
  | .flowLowTimerExpiry => true
  | .runOnTimerExpiry => true
  | .exhaustRefreshTimerExpiry => true
  | .settleTimerExpiry => true
  | .secondTimerExpiry => true
  | .linkDown .. => true
  | .linkUp .. => true
  | .telegramReceived _ run => !run.isEmpty
  | .ageTimerExpiry .. => true
  | .telegramBoundary .. => true
  | .identify r => r.wellFormed
  | .readStatus r .. => r.wellFormed
  | .setCursor r .. => r.wellFormed
  | .writeRun r values => r.wellFormed && fitsPayload (2 * values.length)
  | .readRun r _ => r.wellFormed
  | .readTrack r _ => r.wellFormed
  | .announceBoard r _ id => r.wellFormed && fitsPayload (2 + id.length)
  | .withdrawAnnounces r => r.wellFormed
  | .purgeTrack r => r.wellFormed
  | .readAlarms r .. => r.wellFormed
  | .acknowledge r .. => r.wellFormed
  | .acknowledgeAll r => r.wellFormed
  | .setStateIdle r => r.wellFormed
  | .setStateWarmup r => r.wellFormed
  | .setStateDrain r => r.wellFormed
  | .setStateResume r => r.wellFormed
  | .setStateService r => r.wellFormed
  | .manualOutput r .. => r.wellFormed
  | .clockHold r => r.wellFormed
  | .clockSet r .. => r.wellFormed
  | .clockRun r => r.wellFormed
  | .lineRestart r => r.wellFormed
  | .setAddress r _ => r.wellFormed
  | .idleFillReception .. => true

end Sys2Proof
end

