-- ==== Sys2Proof/Certificates/Slice0/Obligations.lean ====
section
/-! DEFINITION. The statements for the provers. In `exec c s = .next (settle x)`, x is the state the commanded block itself leaves,
written out from its rules, and settle takes the internal events that x holds (log entry 3); EventsLeaveStill says what those
events cannot change. A directive command is stated under Accepts: its request is taken (R149, R152, R170). -/
open Sys2Proof Sys2Proof.Machine Sys2Proof.Safety

/-! What several statements read. -/

/-- A record's trail is known and has travelled at least d tenths from its capture to a position (R1). -/
def beyond (p : Pos) (r : BoardRecord) (d : Nat) : Bool :=
  match r.trail with
  | none => false
  | some q => decide (d ≤ (p - q).toNat)

/-- A record governs a zone, index z - 1 (R52): it has a recipe, its lead is within the lookahead L14 of the zone's start or past it,
and its trail is short of the zone's end. -/
def governs (s : State) (i : Nat) (r : BoardRecord) : Bool :=
  r.recipe.isSome && decide (s.L (4 + i) - s.L 14 ≤ (s.trk.position - r.lead).toNat) && !beyond s.trk.position r (s.L (8 + i))

/-- A zone has no governing board, and the announce queue is empty (R53). -/
def zoneEmpty (s : State) (i : Nat) : Bool := !(s.trk.track.any (governs s i)) && s.trk.announces.isEmpty

/-- A loop at its maximum duty falls short of its band, with a heat-fail time above 0 (R57). -/
def fallsShort (s : State) (i : Nat) : Bool :=
  let c := s.loopCtx i
  c.state == .active && c.duty == s.K i 2 && decide (0 < s.L 26) &&
    (match c.lastTemp with
    | none => false
    | some T => decide (T < (c.target : Int) - s.K i 4))

/-- The exhaust flow is LOW (R100): no good value, or one below the minimum. -/
def flowLow (s : State) : Bool :=
  match (if s.exh.flowSensor = .good then s.exh.flow else none) with
  | none => true
  | some v => decide (v < s.L 36)

/-- The settle condition of WARMUP (R128). -/
def settleCondition (s : State) : Bool :=
  s.line.state == .warmup && ([0, 1, 2, 3, 4].all fun i => s.K i 5 == 0 || (s.loopCtx i).inBand) && s.heat.potMolten &&
    (s.pot.level.any fun v => decide (s.L 27 < v)) && s.line.holding != some .drain && s.line.holding != some .stop

/-! One step. -/

/-- A step takes the command at the front of the queue and is its meaning with the queue's rest (the model's form of the block;
log entry 21). -/
def Obligations.StepTakesFrontCommand : Prop :=
  ∀ (c : Instr) (rest : List Instr) (s : State),
    step { s with pending := c :: rest } = exec c { s with pending := rest }

/-- One millisecond on a timer with a limit (R2): it stops there; with a limit of 0 it never expires, and it counts on modulo 2^32
(the model's choice, log entry 13). -/
def oneOn (limit t : Nat) : Nat := if limit = 0 then (t + 1) % 4294967296 else min limit (t + 1)

/-- The timers that count in one millisecond, each under its condition (R6, R20, R40, R53, R57, R82, R88, R97, R99, R101, R128, R138,
R142, R161). A stall timer at its limit counts on to a raised one (the model's choice, log entry 46), the flow-low timer does not
count after FUME_LOSS (log entry 38), and a timer above a limit that was lowered is set to it (log entry 28). -/
def counted (s : State) : State :=
  { s with
    time := s.time + 1
    trk.measTimer := min 1000 (s.trk.measTimer + 1)
    trk.stallTimer := if s.trk.track ≠ [] ∧ s.pins.hold = false then oneOn (s.L 41 * 1000) s.trk.stallTimer else 0
    flux.sprayTotal := if s.flux.valveOpen = true then min 4294967295 (s.flux.sprayTotal + 1) else s.flux.sprayTotal
    heat.loops := s.heat.loops.mapIdx fun i c => { c with
      idleTimer := if i < 4 ∧ c.state = .active ∧ zoneEmpty s i = true then oneOn (s.L 22 * 1000) c.idleTimer else 0
      heatFailTimer := if fallsShort s i = true then oneOn (s.L 26 * 1000) c.heatFailTimer else 0 }
    pot.refresh := min 1000 (s.pot.refresh + 1)
    pot.feedTimer :=
      if s.pot.feeder = .feeding then s.pot.feedTimer.map fun t => { t with elapsed := oneOn t.limit t.elapsed }
      else s.pot.feedTimer
    exh.refresh := min 1000 (s.exh.refresh + 1)
    exh.runOn := s.exh.runOn.map (oneOn (s.L 38 * 1000))
    exh.flowTimer :=
      if s.exh.demand = true ∧ flowLow s = true ∧ 0 < s.L 37 ∧ s.exh.lossTaken = false then
        oneOn (s.L 37 * 1000) s.exh.flowTimer
      else s.exh.flowTimer
    line.second := min 1000 (s.line.second + 1)
    line.settle := if settleCondition s = true then oneOn (s.L 24 * 1000) s.line.settle else 0
    net.upSilence := min 20 (s.net.upSilence + 1)
    net.downSilence := min 20 (s.net.downSilence + 1)
    filt.entries := s.filt.entries.mapIdx fun e c =>
      let row := s.entryRow e
      if row.quantity ≠ .none ∧ row.node ≠ 0 ∧ 0 < row.ageLimit ∧ c.silent = false then
        { c with age := min row.ageLimit (c.age + 1) }
      else c }

/-- A timer at its limit expires: what its command does. -/
def expires (due : Bool) (c : Instr) (s : State) : State :=
  if due then
    match exec c s with
    | .next t => t
    | .fault _ => s
    | .refused _ => s
  else s

/-- The idle timer of a zone at its limit makes the setback the target, if it is not yet (R53, R54). -/
def idleExpires (s : State) (z : Nat) : State :=
  let c := s.loopCtx z
  if c.state = .active ∧ zoneEmpty s z = true ∧ 0 < s.L 22 ∧ s.L 22 * 1000 ≤ c.idleTimer ∧ c.target ≠ s.L (18 + z) then
    settle (testLoop z ((s.setLoop z { c with idleTimer := s.L 22 * 1000, target := s.L (18 + z) }).post (.targetChanged z)))
  else s

/-- The expiries of one millisecond, each where its timer has reached its limit, in the order of the opcode table (the model's
choice, log entry 1), UP's silence before DOWN's (log entry 42). A timer that a lowered limit overtook expires with them, at the
next millisecond it counts (log entry 28). -/
def expired (s : State) : State :=
  let a := expires (decide (1000 ≤ s.trk.measTimer)) .speedMeasurement s
  let b := expires (decide (a.L 41 * 1000 ≤ a.trk.stallTimer)) .conveyorStall a
  let c := (List.range 4).foldl idleExpires b
  let d := (List.finRange 5).foldl (fun t n => expires (decide (t.L 26 * 1000 ≤ (t.loopCtx n.val).heatFailTimer)) (.heatFail n) t) c
  let e := expires (d.pot.feedTimer.any fun t => decide (t.limit ≤ t.elapsed)) .feedTimerExpiry d
  let f := expires (decide (1000 ≤ e.pot.refresh)) .potRefreshTimerExpiry e
  let g := expires (decide (f.L 37 * 1000 ≤ f.exh.flowTimer)) .flowLowTimerExpiry f
  let h := expires (g.exh.runOn.any fun ms => decide (g.L 38 * 1000 ≤ ms)) .runOnTimerExpiry g
  let i := expires (decide (1000 ≤ h.exh.refresh)) .exhaustRefreshTimerExpiry h
  let j := expires (decide (i.L 24 * 1000 ≤ i.line.settle)) .settleTimerExpiry i
  let k := expires (decide (1000 ≤ j.line.second)) .secondTimerExpiry j
  let l := expires (decide (20 ≤ k.net.upSilence)) (.linkDown .up) k
  let m := expires (decide (20 ≤ l.net.downSilence)) (.linkDown .down) l
  (List.finRange 32).foldl (fun t e => expires (decide ((t.entryRow e.val).ageLimit ≤ (t.entryCtx e.val).age)) (.ageTimerExpiry e) t) m

/-- With no command waiting one millisecond of the time base passes (R2), whole: the timers count (counted), and each that has
reached its limit expires (expired). No table, loader state or announce changes, the position stands, and the line clock advances
exactly when the second timer reaches 1000 ms while RUNNING (R138). The model's choices here: that time passes on an empty queue
(log entry 1), and those named at counted and expired (log entries 13, 28, 38, 42, 46). -/
def Obligations.EmptyQueueStepIsOneMillisecond : Prop :=
  ∀ s : State, s.pending = [] → step s = .next (expired (counted s)) ∧ ∃ t : State,
    step s = .next t ∧ t.time = s.time + 1 ∧ t.pending = [] ∧ t.tab = s.tab ∧ t.ldr = s.ldr ∧
      t.trk.position = s.trk.position ∧ t.trk.announces = s.trk.announces ∧ t.net.address = s.net.address ∧
      t.line.clockRunning = s.line.clockRunning ∧
      t.line.clock = (if 999 ≤ s.line.second ∧ s.line.clockRunning = true then nextSecond s.line.clock else s.line.clock) ∧
      t.line.second = (if 999 ≤ s.line.second then 0 else s.line.second + 1)

/-! Reset. -/

/-- Device reset: the tracker's values, and no notice and no alarm (R27). -/
def Obligations.DeviceResetTracker : Prop :=
  ∀ (a b eye : Bool) (straps : BitVec 6) (s : State), ∃ t : State,
    exec (.deviceReset a b eye straps) s = .next t ∧
      t.trk.position = 0 ∧ t.trk.residue = 0 ∧ t.trk.encA = a ∧ t.trk.encB = b ∧ t.trk.revDist = 0 ∧ t.trk.revResidue = 0 ∧
      t.trk.speed = 0 ∧ t.trk.advances = 0 ∧ t.trk.measTimer = 0 ∧ t.trk.eyeBlocked = eye ∧ t.trk.candidate = none ∧
      t.trk.announces = [] ∧ t.trk.track = [] ∧ t.trk.nextTag = 0 ∧ t.trk.entered = 0 ∧ t.trk.exited = 0 ∧
      t.trk.purged = 0 ∧ t.trk.pins = List.replicate 32 0 ∧ t.trk.lastEntered = none ∧ t.trk.stallTimer = 0 ∧
      t.trk.condReverse = false ∧ t.trk.condStall = false ∧ t.trk.condEye = none ∧ t.trk.condSpeed = none ∧
      t.net.upUrgent = [] ∧ t.net.upNormal = [] ∧ t.alm.records = [] ∧ t.alm.listFull = none ∧ t.events = []

/-- The flux controller after either reset, with a valve lead distance (R42). -/
def fluxAtRest (lead : Nat) : Flux :=
  { valveOpen := false, windows := [], bridge := none, status := .none, pressure := none, mask := false, lv := lead
    eligible := false, sprayTotal := 0 }

/-- A loop context after either reset, with a target (R43, R61). -/
def loopAtRest (target : Nat) : LoopCtx :=
  { state := .off, causes := ⟨false, false, false, false⟩, manual := none, target := target, setpoint := 0, remainder := 0
    integrator := 0, satHigh := false, satLow := false, lastComp := none, lastTemp := none, duty := 0, inBand := false
    heatFailTimer := 0, heatFail := false, idleTimer := 0 }

/-- The pot controller after either reset, with a refresh timer (R76, R94). -/
def potAtRest (refresh : Nat) : Pot :=
  { level := none, condCritical := false, condOver := false, criticalRecord := false, sensor := .good, potTemp := none
    feeder := .off, jam := false, failures := 0, baseline := none, feedTimer := none, feedDrive := 0, gateBoard := none
    pump := 0, forced := true, manualPump := none, manualFeeder := none, feederCmd := 0, refresh := refresh }

/-- The exhaust monitor after either reset, with a demand and its fan command, a run-on, a valve report and a refresh timer (R95,
R105). -/
def exhaustAtRest (demand : Bool) (runOn : Option Nat) (valve : Bool) (refresh : Nat) : Exhaust :=
  { demand := demand, runOn := runOn, manualFan := none, valveOpen := valve, srcHeater := false, srcPump := false
    srcFeeder := false, fan := if demand then 1000 else 0, refresh := refresh, flow := none, flowSensor := .none, stage := .one
    flowTimer := 0, condFlowLow := false, condLoss := false, lossTaken := false, dp := none, dpSensor := .none
    condLoaded := false }

/-- Device reset: the other blocks' values, written out from the reset columns of their rules; the commands that wait stay (log
entry 21) and the time base is 0 (log entry 8). -/
def Obligations.DeviceResetOtherBlocks : Prop :=
  ∀ (a b eye : Bool) (straps : BitVec 6) (s : State), ∃ t : State,
    exec (.deviceReset a b eye straps) s = .next t ∧ t.pending = s.pending ∧ t.time = 0 ∧
      t.flux = fluxAtRest 0 ∧
      (∀ i, i < 5 → t.loopCtx i = loopAtRest 0) ∧
      t.heat.potMolten = false ∧
      t.pot = potAtRest 0 ∧
      t.exh = exhaustAtRest false none false 0 ∧
      t.alm.holding = none ∧ t.alm.warn = false ∧
      t.line = {
        state := .idle, holding := none, warn := false, settle := 0, changeover := false, holdRecipe := none, admitted := none
        second := 0, clockRunning := false, clock := ⟨0, 0, 0, 0⟩ } ∧
      t.pins = ⟨false, false, false, false, .off, .off, .off⟩ ∧
      t.net = {
        upLink := false, downLink := false, upSilence := 0, downSilence := 0, downFifo := [], upFifo := [], downUrgent := []
        downSlots := [], upUrgent := [], upNormal := [], reserved := none, upFair := 0, downFair := 0, upTx := none
        downTx := none, upBad := 0, downBad := 0, address := if straps = 63 then 62 else straps.toNat, addressOpen := true } ∧
      (∀ e, e < 32 → t.entryRow e = ⟨0, 0, .none, 1024, 0, true, 0⟩ ∧ t.entryCtx e = ⟨0, false, false⟩) ∧
      (∀ f : OutFn, t.outputRow f = ⟨0, 0, false⟩ ∧ t.nodeFault f = false ∧ t.marked f = false) ∧
      (∀ k, k ≠ AlarmKind.listFull → t.policyOf k = ⟨defaultSeverity k, false⟩) ∧
      t.tab.station = [⟨some 0, .service⟩, ⟨none, .operate⟩, ⟨none, .operate⟩, ⟨none, .operate⟩] ∧
      t.L 1 = 20 ∧ (∀ n, n ≠ 1 → t.L n = 0) ∧ (∀ i, i < 5 → ∀ n, t.K i n = if n = 4 then 50 else 0) ∧
      (∀ (row : Row) (n : Nat), t.P row n = 0) ∧ (∀ row : Row, t.rowDefined row = false) ∧
      (∀ e, e < 4 → t.cursorOf e = none ∧ t.ldr.snapshots.getD e none = none)

/-- The invariants hold at State.reset. -/
def Obligations.ResetMeetsInvariants : Prop :=
  TrackerInv State.reset ∧ HeatInv State.reset ∧ PotInv State.reset ∧ ExhaustInv State.reset ∧ LinesInv State.reset ∧
    QueueInv State.reset ∧ AlarmInv State.reset

/-! Conveyor. -/

/-- ENCODER_TRANSITION without an advance. When both lines change the levels are recorded and no pulse counts (R3); the same where
neither line changes, which no rule names (the model's choice, log entry 20). A forward pulse that leaves the residue short of
the scaler only adds one to it (R4). A reverse pulse (R5) lowers the residue, or fills the reverse residue, or adds a tenth to the
reverse distance, saturating at 65,535, and raises CONVEYOR_REVERSE when that brings it to the reverse limit; that the raise
carries no value is the model's choice (log entry 11). -/
def Obligations.EncoderWithoutAdvance : Prop :=
  (∀ (a b : Bool) (s : State), (a ≠ s.trk.encA ↔ b ≠ s.trk.encB) →
    exec (.encoderTransition a b) s = .next (settle { s with trk.encA := a, trk.encB := b })) ∧
  (∀ (a b : Bool) (s : State),
    (a ≠ s.trk.encA ∧ b = s.trk.encB ∧ a ≠ b) ∨ (a = s.trk.encA ∧ b ≠ s.trk.encB ∧ b = a) →
    s.trk.residue + 1 < (if s.L 0 = 0 then 1 else s.L 0) →
    exec (.encoderTransition a b) s =
      .next (settle { s with trk.encA := a, trk.encB := b, trk.residue := s.trk.residue + 1 })) ∧
  (∀ (a b : Bool) (s : State),
    (a ≠ s.trk.encA ∧ b = s.trk.encB ∧ a = b) ∨ (a = s.trk.encA ∧ b ≠ s.trk.encB ∧ b ≠ a) →
    exec (.encoderTransition a b) s = .next (settle (
      if 0 < s.trk.residue then { s with trk.encA := a, trk.encB := b, trk.residue := s.trk.residue - 1 }
      else if s.trk.revResidue + 1 < (if s.L 0 = 0 then 1 else s.L 0) then
        { s with trk.encA := a, trk.encB := b, trk.revResidue := s.trk.revResidue + 1 }
      else if s.trk.revDist < 65535 ∧ s.trk.revDist + 1 = s.L 42 ∧ s.trk.condReverse = false then
        { s with
          trk.encA := a, trk.encB := b, trk.revResidue := 0, trk.revDist := min 65535 (s.trk.revDist + 1)
          trk.condReverse := true, events := s.events ++ [.raise .conveyorReverse 0 none] }
      else
        { s with trk.encA := a, trk.encB := b, trk.revResidue := 0, trk.revDist := min 65535 (s.trk.revDist + 1) })))

/-- A record has travelled past the exit position, at a position (R16). -/
def exitsAt (s : State) (p : Pos) (r : BoardRecord) : Bool := beyond p r (s.L 13)

/-- A record leaves by exit (R16): its BOARD_EXIT notice is offered, its row's pin count falls, the exited counter rises, and the
record change is reported. -/
def boardExits (s : State) (r : BoardRecord) : State :=
  let u := State.offerUpNormal
    { s with
      trk.track := s.trk.track.tail, trk.exited := s.trk.exited + 1
      trk.pins := match r.recipe with
        | none => s.trk.pins
        | some row => s.trk.pins.set row.val (s.trk.pins.getD row.val 0 - 1) }
    { dest := 63, kind := 5, payload := 3 :: boardImage r }
  { u with events := u.events ++ [.recordChange false] }

/-- The stall timer is 0 and a present CONVEYOR_STALL condition clears (R20). -/
def stallOver (s : State) : State :=
  { s with
    trk.stallTimer := 0, trk.condStall := false
    events := if s.trk.condStall then s.events ++ [.clear .conveyorStall 0] else s.events }

/-- The exit test (R16): the oldest records past the exit position leave, oldest first; an emptied track ends the stall (R20). -/
def exitsTaken (s : State) : State :=
  let t := (s.trk.track.takeWhile (exitsAt s s.trk.position)).foldl boardExits s
  if t.trk.track = [] then stallOver t else t

/-- A leading edge confirmed with its captured position (R12, R13): a full track raises TRACK_OVERFLOW and makes no record; else a
record is appended, bound to the head announce, which it consumes, or by the unannounced policy with UNANNOUNCED raised. -/
def leadingEdgeAt (p : Pos) (s : State) : State :=
  if 16 ≤ s.trk.track.length then
    { s with trk.eyeBlocked := true, trk.candidate := none, events := s.events ++ [.raise .trackOverflow 0 none] }
  else
    match s.trk.announces with
    | a :: rest =>
      { s with
        trk.eyeBlocked := true, trk.candidate := none, trk.announces := rest, trk.nextTag := s.trk.nextTag + 1
        trk.entered := s.trk.entered + 1, trk.lastEntered := some a.row
        trk.track := s.trk.track ++ [{
          tag := s.trk.nextTag, recipe := some a.row, id := a.id, lead := p, entryTime := s.line.clock,
          flux := if s.P a.row 2 = 1 then .pending else .none }]
        events := s.events ++ [.announceChange, .recordChange true] }
    | [] =>
      let row : Option Row := if s.L 17 = 0 ∧ s.rowDefined 0 = true then some 0 else none
      { s with
        trk.eyeBlocked := true, trk.candidate := none, trk.nextTag := s.trk.nextTag + 1
        trk.entered := s.trk.entered + 1, trk.lastEntered := row
        trk.pins := if row = none then s.trk.pins else s.trk.pins.set 0 (s.trk.pins.getD 0 0 + 1)
        trk.track := s.trk.track ++ [{
          tag := s.trk.nextTag, recipe := row, id := [], lead := p, entryTime := s.line.clock,
          flux := if row ≠ none ∧ s.P 0 2 = 1 then .pending else .none, flags.unannounced := true }]
        events := s.events ++ [.raise .unannounced s.trk.nextTag.toNat none, .recordChange true] }

/-- A trailing edge confirmed with its captured position (R14): with no open record only the eye's level changes; else the newest
open record gets its trail and length, SHORT and OVERLENGTH by L15 and P10 with their alarms, its EYE_BLOCKED clears (R19), and
the exit test is made (R16). -/
def trailingEdgeAt (p : Pos) (s : State) : State :=
  match s.trk.track.reverse.find? fun r => r.trail.isNone with
  | none => { s with trk.eyeBlocked := false, trk.candidate := none }
  | some r =>
    let len := (p - r.lead).toNat
    let excess : Bool := match r.recipe with
      | none => false
      | some row => decide (s.P row 10 < len)
    let done : BoardRecord := { r with
      trail := some p, length := some len
      flags.short := r.flags.short || decide (len < s.L 15), flags.overlength := r.flags.overlength || excess }
    let u := exitsTaken { s with
      trk.eyeBlocked := false, trk.candidate := none
      trk.track := s.trk.track.map fun x => if x = r then done else x
      trk.condEye := if s.trk.condEye = some r.tag then none else s.trk.condEye
      events := s.events ++ (if len < s.L 15 then [.raise .shortBoard r.tag.toNat none] else []) ++
        (if excess then [.raise .overlength r.tag.toNat none] else []) ++
        (if s.trk.condEye = some r.tag then [.clear .eyeBlocked r.tag.toNat] else []) }
    { u with events := u.events ++ [.recordChange false] }

/-- The encoder levels of a forward pulse (R3). -/
def forwardLevels (a b : Bool) (s : State) : Prop :=
  (a ≠ s.trk.encA ∧ b = s.trk.encB ∧ a ≠ b) ∨ (a = s.trk.encA ∧ b ≠ s.trk.encB ∧ b = a)

/-- A position advance before the eye is looked at (R4): the position one on, the residue and the reverse travel forgotten. -/
def advanceBegins (a b : Bool) (s : State) : State :=
  { s with
    trk.encA := a, trk.encB := b, trk.position := s.trk.position + 1, trk.residue := 0, trk.revDist := 0
    trk.revResidue := 0, trk.condReverse := false
    events := if s.trk.condReverse then s.events ++ [.clear .conveyorReverse 0] else s.events }

/-- A position advance after the eye (R4): EYE_BLOCKED of a newest record still open at L25 (R19), the exits (R16), the stall ended
(R20), the advance counted and told to the other blocks. -/
def advanceEnds (s : State) : State :=
  let u : State := match s.trk.track.getLast? with
    | none => s
    | some r =>
      if r.trail = none ∧ 0 < s.L 25 ∧ s.L 25 ≤ (s.trk.position - r.lead).toNat ∧ s.trk.condEye ≠ some r.tag then
        { s with trk.condEye := some r.tag, events := s.events ++ [.raise .eyeBlocked r.tag.toNat none] }
      else s
  let v := stallOver (exitsTaken u)
  { v with trk.advances := v.trk.advances + 1, events := v.events ++ [.advance] }

/-- ENCODER_TRANSITION that advances the position (R4): the position rises by one and wraps; residue, reverse distance and reverse
residue are 0; CONVEYOR_REVERSE and CONVEYOR_STALL are absent; the stall timer is 0 and the advance count rises by one. With no
eye candidate pending, exactly the oldest records past the exit position leave, and the exited counter rises by their number
(R16, R26); nothing else of a record's own fields moves. With no candidate, or one short of the debounce distance, the whole
advance is advanceBegins and advanceEnds, EYE_BLOCKED (R19) and the BOARD_EXIT notices (R16) among them; an advance that confirms a
candidate is stated in LeadingEdge and TrailingEdge. The model's choices: EYE_BLOCKED is raised without a value (log entry 11), and
the BOARD_EXIT notices go before those of the raises and clears of the same advance (log entry 52). -/
def Obligations.PositionAdvance : Prop :=
  ∀ (a b : Bool) (s : State), forwardLevels a b s → (if s.L 0 = 0 then 1 else s.L 0) ≤ s.trk.residue + 1 →
    (∃ t : State, exec (.encoderTransition a b) s = .next t ∧
      t.trk.position = s.trk.position + 1 ∧ t.trk.residue = 0 ∧ t.trk.revDist = 0 ∧ t.trk.revResidue = 0 ∧
      t.trk.condReverse = false ∧ t.trk.condStall = false ∧ t.trk.stallTimer = 0 ∧ t.trk.advances = s.trk.advances + 1 ∧
      t.trk.encA = a ∧ t.trk.encB = b ∧ t.trk.speed = s.trk.speed ∧ t.trk.measTimer = s.trk.measTimer ∧
      t.time = s.time ∧ t.tab = s.tab ∧ t.ldr = s.ldr ∧ t.line.clock = s.line.clock ∧ t.pending = s.pending ∧
      (s.trk.candidate = none →
        t.trk.track.map boardCore = (s.trk.track.dropWhile (exitsAt s (s.trk.position + 1))).map boardCore ∧
        t.trk.exited = s.trk.exited +
          BitVec.ofNat 16 (s.trk.track.length - (s.trk.track.dropWhile (exitsAt s (s.trk.position + 1))).length) ∧
        t.trk.announces = s.trk.announces ∧ t.trk.entered = s.trk.entered ∧ t.trk.purged = s.trk.purged ∧
        t.trk.nextTag = s.trk.nextTag ∧ t.trk.candidate = none ∧ t.trk.eyeBlocked = s.trk.eyeBlocked)) ∧
    ((∀ c, s.trk.candidate = some c → (s.trk.position + 1 - c.position).toNat < s.L 1) →
      exec (.encoderTransition a b) s = .next (settle (advanceEnds (advanceBegins a b s))))

/-- EYE_CHANGE with a debounce distance, a pending candidate or no change of level (R7): a level different from the confirmed one
makes a candidate; a change back to it discards the candidate. R7 says that the other two cases cannot occur (the confirmed level
without a candidate, a different level with one); that the command then changes nothing is the model's choice (log entry 20). -/
def Obligations.EyeCandidate : Prop :=
  ∀ (blocked : Bool) (s : State), s.L 1 ≠ 0 ∨ s.trk.candidate ≠ none ∨ blocked = s.trk.eyeBlocked →
    exec (.eyeChange blocked) s = .next (settle (
      match s.trk.candidate with
      | none =>
        if blocked = s.trk.eyeBlocked then s
        else { s with trk.candidate := some { position := s.trk.position, blocked := blocked } }
      | some _ => if blocked = s.trk.eyeBlocked then { s with trk.candidate := none } else s))

/-- A leading edge (R7, R12, R13), leadingEdgeAt: confirmed at once by EYE_CHANGE while L1 is 0, and at the captured position by
the advance that brings a pending candidate to the debounce distance. The model's choices: TRACK_OVERFLOW and UNANNOUNCED are raised
without a value (log entry 11), the BOARD_EXIT notices of that advance go before theirs (log entry 52), and a consumed announce's
change is reported before the record change (log entry 58). -/
def Obligations.LeadingEdge : Prop :=
  (∀ s : State, s.L 1 = 0 → s.trk.candidate = none → s.trk.eyeBlocked = false →
    exec (.eyeChange true) s = .next (settle (leadingEdgeAt s.trk.position s))) ∧
  (∀ (a b : Bool) (s : State) (p : Pos), forwardLevels a b s → (if s.L 0 = 0 then 1 else s.L 0) ≤ s.trk.residue + 1 →
    s.trk.candidate = some { position := p, blocked := true } → s.L 1 ≤ (s.trk.position + 1 - p).toNat →
    exec (.encoderTransition a b) s = .next (settle (advanceEnds (leadingEdgeAt p (advanceBegins a b s)))))

/-- A trailing edge (R7, R14, R16, R19), trailingEdgeAt: confirmed at once by EYE_CHANGE while L1 is 0, and at the captured position
by the advance that brings a pending candidate to the debounce distance. With no open record the edge is ignored. The model's
choices: SHORT_BOARD and OVERLENGTH are raised without a value (log entry 11) and in this order (log entry 55), and a BOARD_EXIT of
the same event goes before their notices (log entry 52). -/
def Obligations.TrailingEdge : Prop :=
  (∀ s : State, s.L 1 = 0 → s.trk.candidate = none → s.trk.eyeBlocked = true →
    exec (.eyeChange false) s = .next (settle (trailingEdgeAt s.trk.position s))) ∧
  (∀ (a b : Bool) (s : State) (p : Pos), forwardLevels a b s → (if s.L 0 = 0 then 1 else s.L 0) ≤ s.trk.residue + 1 →
    s.trk.candidate = some { position := p, blocked := false } → s.L 1 ≤ (s.trk.position + 1 - p).toNat →
    exec (.encoderTransition a b) s = .next (settle (advanceEnds (trailingEdgeAt p (advanceBegins a b s)))))

/-- SPEED_MEASUREMENT (R6, R21) and CONVEYOR_STALL (R20): the speed is the advances counted, offending records are flagged and
SPEED_OUT raised or cleared; the stall timer's expiry raises CONVEYOR_STALL once. Where the timer cannot expire the command changes
nothing (log entry 2). The model's choices: both raises carry no value (log entry 11), and SPEED_OUT is reported before the
measurement (log entry 58). -/
def Obligations.TrackerTimers : Prop :=
  (∀ s : State, exec .speedMeasurement s = .next (settle (
    let v := min 65535 s.trk.advances
    let off : BoardRecord → Bool := fun r => match r.recipe with
      | none => false
      | some row => decide (v < s.P row 0 ∨ s.P row 1 < v)
    let u : State := { s with
      trk.speed := v, trk.advances := 0, trk.measTimer := 0
      trk.track := s.trk.track.map fun r => if off r then { r with flags.speedOut := true } else r }
    match s.trk.track.find? off, s.trk.condSpeed with
    | some r, none =>
      { u with trk.condSpeed := some r.tag, events := s.events ++ [.raise .speedOut r.tag.toNat none, .speedMeasured] }
    | none, some t =>
      { u with trk.condSpeed := none, events := s.events ++ [.clear .speedOut t.toNat, .speedMeasured] }
    | some _, some _ => { u with events := s.events ++ [.speedMeasured] }
    | none, none => { u with events := s.events ++ [.speedMeasured] }))) ∧
  (∀ s : State, exec .conveyorStall s = .next (
    if s.trk.track ≠ [] ∧ s.pins.hold = false ∧ 0 < s.L 41 ∧ s.trk.condStall = false then
      settle { s with
        trk.stallTimer := s.L 41 * 1000, trk.condStall := true
        events := s.events ++ [.raise .conveyorStall 0 none] }
    else s))

/-! Heat. -/

/-- The state of a loop (R44, R45): disabled OFF, else FAULT for a cause, MANUAL for a manual duty, ACTIVE where the line calls for
heat, which STOPPED does for the pot alone, else OFF. -/
def loopStateBy (s : State) (i : Nat) : LoopState :=
  let c := s.loopCtx i
  if s.K i 5 = 0 then .off
  else if c.causes.fault || c.causes.silent || c.causes.overtemp || c.causes.latch then .fault
  else if c.manual ≠ none then .manual
  else if s.line.state = .warmup ∨ s.line.state = .ready ∨ s.line.state = .drain ∨ (s.line.state = .stopped ∧ i = 4) then .active
  else .off

/-- The target of a loop (R51 to R53): the pot setpoint for loop 5; the governing board's zone target, else the head announce's,
else the setback once the idle timer of an ACTIVE loop has run out, else the present one. -/
def targetBy (s : State) (i : Nat) : Nat :=
  let c := s.loopCtx i
  if i = 4 then s.L 23
  else match (s.trk.track.find? (governs s i)).bind fun r => r.recipe, s.trk.announces with
    | some row, _ => s.P row (6 + i)
    | none, a :: _ => s.P a.row (6 + i)
    | none, [] => if c.state = .active ∧ 0 < s.L 22 ∧ s.L 22 * 1000 ≤ c.idleTimer then s.L (18 + i) else c.target

/-- The in-band evaluation and the heat-fail test of a loop (R55 to R57): the flag is ACTIVE, the setpoint at the target and the
temperature within K4 of it; loop 5 in band sets the pot-molten flag; where the heat-fail condition is false the timer is 0 and a
present HEAT_FAIL clears. -/
def loopTested (i : Nat) (s : State) : State :=
  let c := s.loopCtx i
  let band : Bool := c.state == .active && c.setpoint == c.target &&
    (match c.lastTemp with
    | none => false
    | some T => decide ((T - c.target).natAbs ≤ s.K i 4))
  let short := fallsShort s i
  let u := s.setLoop i { c with
    inBand := band, heatFailTimer := if short = true then c.heatFailTimer else 0, heatFail := c.heatFail && short }
  { u with
    heat.potMolten := s.heat.potMolten || (band && i == 4)
    events := s.events ++ (if band = c.inBand then [] else [.inBandChanged i]) ++
      (if i = 4 ∧ band = true ∧ s.heat.potMolten = false then [.potMoltenChanged] else []) ++
      (if c.heatFail = true ∧ short = false then [.clear .heatFail (i + 1)] else []) }

/-- A loop that enters OFF or FAULT (R46): duty 0 and its urgent zero, the in-band flag, the heat-fail timer and condition and the
last computation time gone; for loop 5 the pot-molten flag; for FAULT the manual duty, whose end is reported (R59). -/
def loopRests (i : Nat) (st : LoopState) (s : State) : State :=
  let c := s.loopCtx i
  let u := State.commandZero (s.setLoop i { c with
    state := st, lastComp := none, idleTimer := 0, duty := 0, inBand := false, heatFailTimer := 0, heatFail := false
    manual := if st = .fault then none else c.manual }) (loopFn i)
  { u with
    heat.potMolten := s.heat.potMolten && i != 4
    events := s.events ++ (if c.inBand = true then [.inBandChanged i] else []) ++
      (if c.heatFail = true then [.clear .heatFail (i + 1)] else []) ++
      (if i = 4 ∧ s.heat.potMolten = true then [.potMoltenChanged] else []) ++
      (if st = .fault ∧ c.manual ≠ none then [.heaterReport (u.heat.loops.any fun x => x.manual.isSome)] else []) }

/-- A loop that enters ACTIVE (R47, R73): the target, an empty zone's being row 0's or the setback (R54); integrator 0, both
saturation flags clear, the setpoint preset to the last temperature or else to the target, remainder 0, no last computation, duty 0
and both timers 0; from MANUAL an urgent zero; then the tests. -/
def loopActivates (i : Nat) (s : State) : State :=
  let c := s.loopCtx i
  let target :=
    if i < 4 ∧ zoneEmpty s i = true then (if s.rowDefined 0 = true then s.P 0 (6 + i) else s.L (18 + i)) else targetBy s i
  let u := s.setLoop i { c with
    state := .active, target := target, setpoint := c.lastTemp.getD target, remainder := 0, integrator := 0, satHigh := false
    satLow := false, lastComp := none, duty := 0, heatFailTimer := 0, idleTimer := 0 }
  let v := { u with events := s.events ++ if target = c.target then [] else [.targetChanged i] }
  testLoop i (if c.state = .manual then v.commandZero (loopFn i) else v)

/-- A loop that enters MANUAL (R58, R59): its manual duty is its commanded duty and is sent. -/
def loopManual (i : Nat) (s : State) : State :=
  let c := s.loopCtx i
  testLoop i (State.commandValue (s.setLoop i { c with state := .manual, idleTimer := 0, duty := c.manual.getD 0 }) (loopFn i)
    (c.manual.getD 0))

/-- The loops whole. What becomes of a loop whose state is derived again: nothing where it stands, else the entry actions of the new
state (R45 to R47, R73). An evaluation of a target (R51 to R54), which a governing board or an announce gives an idle timer of 0 and
whose change is reported and tested (R55 to R57), loop 1 first (the model's choice, log entry 34). IDLE_TIMER_EXPIRY and HEAT_FAIL
(R53, R54, R57). An ACTIVE zone loop without a governing board and with an empty announce
queue takes its setback as target, a changed target being reported and tested; elsewhere the command changes nothing (log entry
2). A loop at its maximum duty and short of its band raises HEAT_FAIL once. -/
def Obligations.HeatTimers : Prop :=
  (∀ (i : Nat) (s : State), s.derivedLoopState i = loopStateBy s i) ∧
  (∀ (i : Nat) (s : State), i < 5 → s.heat.loops.length = 5 →
    deriveLoop i s =
      (if (s.loopCtx i).state = loopStateBy s i then s
      else match loopStateBy s i with
        | .off => loopRests i .off s
        | .fault => loopRests i .fault s
        | .active => loopActivates i s
        | .manual => loopManual i s)) ∧
  (∀ (i : Nat) (s : State), i < 5 → s.heat.loops.length = 5 →
    evalTarget i s =
      let c := s.loopCtx i
      let d := { c with idleTimer := if i < 4 ∧ zoneEmpty s i = false then 0 else c.idleTimer }
      let v := targetBy s i
      if v = c.target then s.setLoop i d
      else testLoop i ((s.setLoop i { d with target := v }).post (.targetChanged i))) ∧
  (∀ s : State, evalTargets s = (List.range 5).foldl (fun t i => evalTarget i t) s) ∧
  (∀ (i : Nat) (s : State), i < 5 → s.heat.loops.length = 5 → testLoop i s = loopTested i s) ∧
  (∀ (z : Fin 4) (s : State), s.heat.loops.length = 5 →
    exec (.idleTimerExpiry z) s = .next (
      let c := s.loopCtx z.val
      if c.state = .active ∧ zoneEmpty s z.val = true ∧ 0 < s.L 22 ∧ c.idleTimer < s.L 22 * 1000 then
        settle (
          if s.L (18 + z.val) = c.target then s.setLoop z.val { c with idleTimer := s.L 22 * 1000 }
          else testLoop z.val
            ((s.setLoop z.val { c with idleTimer := s.L 22 * 1000, target := s.L (18 + z.val) }).post
              (.targetChanged z.val)))
      else s)) ∧
  (∀ (n : Fin 5) (s : State) (T : Int), (s.loopCtx n.val).lastTemp = some T →
    exec (.heatFail n) s = .next (
      let c := s.loopCtx n.val
      if c.state = .active ∧ c.duty = s.K n.val 2 ∧ T < (c.target : Int) - s.K n.val 4 ∧ 0 < s.L 26 ∧
          c.heatFail = false then
        settle ((s.setLoop n.val { c with heatFailTimer := s.L 26 * 1000, heatFail := true }).post
          (.raise .heatFail (n.val + 1) (some T)))
      else s)) ∧
  (∀ (n : Fin 5) (s : State), (s.loopCtx n.val).lastTemp = none → exec (.heatFail n) s = .next s)

/-- The heater computation (R66 to R72), written out: the ramp, the clamped error, the proportional term, the increment truncated
toward zero and clamped into the integrator, and the duty rounded half up with the saturation flags. -/
def Obligations.ComputationStages : Prop :=
  ∀ (k0 k1 k2 k3 : Nat) (now : Time) (T : Int) (c : LoopCtx),
    let dt : Nat := match c.lastComp with
      | none => 0
      | some t0 => min 2000 (now - t0).toNat
    let acc := c.remainder + k3 * dt
    let step : Nat := acc / 1000
    let sp : Int :=
      if k3 = 0 then c.target
      else if c.setpoint ≤ c.target then min c.target (c.setpoint + step) else max c.target (c.setpoint - step)
    let rem : Nat := if k3 = 0 ∨ sp = c.target then 0 else acc - 1000 * step
    let e : Int := max (-2000) (min 2000 (sp - T))
    let P : Int := k0 * e
    let I : Nat :=
      if 0 < dt ∧ ¬(0 < e ∧ c.satHigh = true) ∧ ¬(e < 0 ∧ c.satLow = true) then
        (max 0 (min ((k2 * 256 : Nat) : Int) (c.integrator + Int.tdiv (k1 * e * dt) 1000))).toNat
      else c.integrator
    let U : Int := P + I
    let d : Nat := ((U + 128) / 256).toNat
    computed k0 k1 k2 k3 now T c =
      { c with
        setpoint := sp, remainder := rem, integrator := I, lastComp := some now
        duty := if U < 0 then 0 else if d ≤ k2 then d else k2
        satHigh := decide (0 ≤ U ∧ k2 < d), satLow := decide (U < 0) }

/-- The ramp never passes the target, the integrator stays within 0 to K2 × 256 and the duty within K2 (R63, R64, R67). -/
def Obligations.ComputationBounds : Prop :=
  ∀ (k0 k1 k2 k3 : Nat) (now : Time) (T : Int) (c : LoopCtx), c.integrator ≤ k2 * 256 →
    let t := computed k0 k1 k2 k3 now T c
    t.integrator ≤ k2 * 256 ∧ t.duty ≤ k2 ∧ ¬(t.satHigh = true ∧ t.satLow = true) ∧
      (c.setpoint ≤ c.target → c.setpoint ≤ t.setpoint ∧ t.setpoint ≤ c.target) ∧
      ((c.target : Int) ≤ c.setpoint → (c.target : Int) ≤ t.setpoint ∧ t.setpoint ≤ c.setpoint) ∧
      (c.remainder < 1000 → t.remainder < 1000) ∧ (t.setpoint = c.target → t.remainder = 0)

/-! Pot. -/

/-- FEED_TIMER_EXPIRY in FEEDING with a running timer (R82, R84): a sufficient rise restarts the interval; the first two short
rises count and change the speed by the count's parity; a further one jams the feeder and raises FEED_JAM. With a minimum rise of 0
every rise is sufficient, a fallen level included (DEDUCED, log entry 53). Elsewhere the command changes nothing (log entry 2). -/
def Obligations.FeedTimerExpiry : Prop :=
  (∀ (s : State) (t0 : FeedTimer) (v b : Nat), s.pot.feeder = .feeding → s.pot.feedTimer = some t0 → 0 < t0.limit →
    s.pot.level = some v → s.pot.baseline = some b →
    exec .feedTimerExpiry s = .next (settle (
      if s.L 34 = 0 ∨ (s.L 34 : Int) ≤ (v : Int) - b then
        { s with pot.baseline := some v, pot.feedTimer := some ⟨0, s.L 33 * 1000⟩ }
      else if s.pot.failures < 2 then
        deriveFeederCmd { s with
          pot.failures := s.pot.failures + 1, pot.baseline := some v, pot.feedTimer := some ⟨0, s.L 33 * 1000⟩
          pot.feedDrive := if (s.pot.failures + 1) % 2 = 0 then s.L 31 else s.L 32 }
      else
        (deriveFeederCmd { s with
          pot.failures := 3, pot.jam := true, pot.feeder := .jammed, pot.feedTimer := none, pot.baseline := none
          pot.feedDrive := 0 }).post (.raise .feedJam 0 (some v))))) ∧
  (∀ s : State, s.pot.feeder ≠ .feeding ∨ s.pot.feedTimer = none ∨ (∃ t0, s.pot.feedTimer = some t0 ∧ t0.limit = 0) →
    exec .feedTimerExpiry s = .next s)

/-- The OUTPUT telegram of a function with a value (R144, R145). -/
def outputOf (s : State) (f : OutFn) (v : Nat) : List Byte :=
  frame s.net.address (s.outputRow f).node 2 (be 1 (s.outputRow f).channel ++ be 2 v)

/-- The first row of R153 that applies on UP: an urgent telegram; after four forwards, or with nothing to forward, a normal one; a
forward. What stands behind the reserved place of a request in execution waits (R152). -/
def upGranted (s : State) : State :=
  match s.net.upUrgent, (if s.net.reserved = some 0 then [] else s.net.upNormal), s.net.upFifo with
  | t :: rest, _, _ => { s with net.upUrgent := rest, net.upTx := some (frame s.net.address t.dest t.kind t.payload) }
  | [], [], [] => s
  | [], [], run :: fifo => { s with net.upFifo := fifo, net.upTx := some run }
  | [], t :: rest, [] =>
    { s with
      net.upNormal := rest, net.reserved := s.net.reserved.map (fun p => p - 1), net.upFair := 0
      net.upTx := some (frame s.net.address t.dest t.kind t.payload) }
  | [], t :: rest, run :: fifo =>
    if 4 ≤ s.net.upFair then
      { s with
        net.upNormal := rest, net.reserved := s.net.reserved.map (fun p => p - 1), net.upFair := 0
        net.upTx := some (frame s.net.address t.dest t.kind t.payload) }
    else { s with net.upFifo := fifo, net.upFair := s.net.upFair + 1, net.upTx := some run }

/-- The first row of R153 that applies on DOWN. An entry or slot whose function is unbound or marked by telegram is removed at its
grant and nothing is sent (R151); that the arbiter then goes on to the next, and that a slot so removed sets the fairness count to
0, is the model's choice (log entry 16). -/
def downGranted (s : State) : State :=
  let gone : OutFn → Bool := fun f => !(s.outputRow f).bound || s.marked f
  match s.net.downUrgent.dropWhile gone with
  | f :: rest => { s with net.downUrgent := rest, net.downTx := some (outputOf s f 0) }
  | [] =>
    match s.net.downSlots, s.net.downFifo with
    | [], [] => { s with net.downUrgent := [] }
    | [], run :: fifo => { s with net.downUrgent := [], net.downFifo := fifo, net.downTx := some run }
    | (f, v) :: rest, run :: fifo =>
      if s.net.downFair < 4 then
        { s with net.downUrgent := [], net.downFifo := fifo, net.downFair := s.net.downFair + 1, net.downTx := some run }
      else if gone f = true then
        { s with
          net.downUrgent := [], net.downSlots := rest, net.downFifo := fifo, net.downFair := if rest = [] then 0 else 1
          net.downTx := some run }
      else
        { s with net.downUrgent := [], net.downSlots := rest, net.downFair := 0, net.downTx := some (outputOf s f v) }
    | slots, [] =>
      match slots.dropWhile fun p => gone p.1 with
      | (f, v) :: rest =>
        { s with net.downUrgent := [], net.downSlots := rest, net.downFair := 0, net.downTx := some (outputOf s f v) }
      | [] => { s with net.downUrgent := [], net.downSlots := [], net.downFair := 0 }

/-- A grant follows at once where the transmitter is idle (R153). -/
def upOffered (s : State) : State := if s.net.upTx = none then upGranted s else s

/-- A grant follows at once where the transmitter is idle (R153). -/
def downOffered (s : State) : State := if s.net.downTx = none then downGranted s else s

/-- A telegram at the UP normal queue (R143, R152): discarded while the link is DOWN; with 16 places taken, a reserved one counted,
discarded with LINK_OVERRUN; else at the tail. -/
def normalOffered (n : Telegram) (s : State) : State :=
  if s.net.upLink = false then s
  else if 16 ≤ s.net.upNormal.length + (if s.net.reserved = none then 0 else 1) then
    { s with events := s.events ++ [.raise .linkOverrun 0 none] }
  else upOffered { s with net.upNormal := s.net.upNormal ++ [n] }

/-- A command of a bound, unmarked function (R88, R99, R151): a value for the slot, or a change to 0 for the urgent queue. -/
def commandOffered (f : OutFn) (v : Nat) (s : State) : State := if v = 0 then s.commandZero f else s.commandValue f v

/-- The two refreshes (R88, R99) and what an offer on DOWN does (R151): a command of a bound, unmarked
function replaces the value of a filled slot in place or fills an empty one at the tail; an urgent zero joins its queue once and
empties the slot; an unbound or marked function is offered nothing. What an offer on UP does (R143, R152): normalOffered, and a
DRAIN or STOP notice joins the urgent queue of 8 or else falls back to the normal one. An idle transmitter takes what is offered at
once (R153). A changed command of the pump, the feeder or the fan is offered, 0 as an urgent zero (R88, R92, R99), and the feeder's
is reported in SERVICE (R98). The model's choices here: the pump is refreshed before the feeder (log entry 37), LINK_OVERRUN carries
no value (log entry 11), and what follows a removal at a grant (log entry 16). -/
def Obligations.RefreshAndOffers : Prop :=
  (∀ s : State, exec .potRefreshTimerExpiry s = .next (settle
    ((State.commandValue { s with pot.refresh := 0 } .wavePump s.pot.pump).commandValue .feeder s.pot.feederCmd))) ∧
  (∀ s : State, exec .exhaustRefreshTimerExpiry s = .next (settle
    (State.commandValue { s with exh.refresh := 0 } .exhaustFan s.exh.fan))) ∧
  (∀ (s : State) (f : OutFn) (v : Nat), (s.outputRow f).bound = false ∨ s.marked f = true →
    s.commandValue f v = s ∧ s.commandZero f = s) ∧
  (∀ (s : State) (f : OutFn) (v : Nat), (s.outputRow f).bound = true → s.marked f = false →
    (s.commandValue f v = downOffered { s with
      net.downSlots :=
        if f ∈ s.net.downSlots.map (fun p => p.1) then s.net.downSlots.map fun p => if p.1 = f then (f, v) else p
        else s.net.downSlots ++ [(f, v)] }) ∧
    (s.commandZero f = downOffered { s with
      net.downUrgent := if f ∈ s.net.downUrgent then s.net.downUrgent else s.net.downUrgent ++ [f]
      net.downSlots := s.net.downSlots.filter fun p => decide (p.1 ≠ f)
      net.downFair := if (s.net.downSlots.filter fun p => decide (p.1 ≠ f)) = [] then 0 else s.net.downFair })) ∧
  (∀ (s : State) (n : Telegram), s.offerUpNormal n = normalOffered n s ∧
    s.offerUpUrgent n =
      (if s.net.upLink = true ∧ s.net.upUrgent.length < 8 then upOffered { s with net.upUrgent := s.net.upUrgent ++ [n] }
      else normalOffered n s)) ∧
  (∀ s : State,
    let pump := s.derivedPump.1
    let feeder := if s.line.state = .service then (if s.pot.condOver = true then 0 else s.pot.manualFeeder.getD 0)
      else s.pot.feedDrive
    let fan := if s.exh.demand = false then 0
      else if s.line.state = .service then s.exh.manualFan.getD 1000 else 1000
    (derivePump s).pot.pump = pump ∧
      (derivePump s).net = (if pump = s.pot.pump then s else commandOffered .wavePump pump s).net ∧
      deriveFeederCmd s =
        (if feeder = s.pot.feederCmd then s
        else
          let u := commandOffered .feeder feeder { s with pot.feederCmd := feeder }
          { u with events := s.events ++ if s.line.state = .service then [.feederReport (decide (0 < feeder))] else [] }) ∧
      deriveFan s = (if fan = s.exh.fan then s else commandOffered .exhaustFan fan { s with exh.fan := fan }))

/-- A record within its wave lead and tail of the wave (R86). -/
def opensGate (s : State) (r : BoardRecord) : Bool :=
  match r.recipe with
  | none => false
  | some row =>
    decide (s.L 12 - s.P row 12 ≤ (s.trk.position - r.lead).toNat) &&
      !beyond s.trk.position r (s.L 12 + s.P row 13)

/-- A record whose leading edge crosses the wave (R89): the entry time, the pot temperature, and WAVE_INTERRUPTED under a forced
pump. -/
def leadCrossed (s : State) (r : BoardRecord) : BoardRecord :=
  if r.waveEntry = none ∧ s.L 12 ≤ (s.trk.position - r.lead).toNat then
    { r with
      waveEntry := some s.time, waveTemp := s.pot.potTemp
      flags.waveInterrupted := r.flags.waveInterrupted || s.pot.forced }
  else r

/-- The dwell of a record whose trailing edge crosses the wave now (R90): the interval since its entry time, modulo 2^32 (R2). -/
def dwellAt (s : State) (r : BoardRecord) : Option Nat :=
  match r.waveEntry, r.dwell with
  | some t, none => if beyond s.trk.position r (s.L 12) then some (s.time - t).toNat else none
  | _, _ => none

/-- A dwell outside its recipe's window (R90). -/
def badDwell (s : State) (r : BoardRecord) (d : Nat) : Bool :=
  match r.recipe with
  | none => false
  | some row => decide (d < s.P row 14 ∨ s.P row 15 < d)

/-- The wave gate (R83, R86), the pump command (R87, R91) and the wave crossings (R89, R90). The gate board is the oldest record
within its wave lead and tail; an opening gate pauses a FEEDING feeder, a closing one resumes a PAUSED one with its timer and
baseline kept; a changed gate or board derives the pump again. A pump that becomes forced flags the boards in contact. Every record
is tested for its leading and then its trailing edge, oldest first, and each dwell out of its window raises DWELL_OUT. -/
def Obligations.WaveGateAndCrossings : Prop :=
  (∀ s : State,
    let t := evalGate s
    let g := (s.trk.track.find? (opensGate s)).map fun r => r.tag
    t.pot.gateBoard = g ∧ t.pot.feedTimer = s.pot.feedTimer ∧ t.pot.baseline = s.pot.baseline ∧
      t.pot.failures = s.pot.failures ∧
      (t.pot.feeder, t.pot.feedDrive) =
        (if g ≠ none ∧ s.pot.gateBoard = none ∧ s.pot.feeder = .feeding then (.paused, 0)
        else if g = none ∧ s.pot.gateBoard ≠ none ∧ s.pot.feeder = .paused then
          (.feeding, if s.pot.failures % 2 = 0 then s.L 31 else s.L 32)
        else (s.pot.feeder, s.pot.feedDrive)) ∧
      (g = s.pot.gateBoard → t = s) ∧
      (g ≠ s.pot.gateBoard → t.pot.pump = t.derivedPump.1 ∧ t.pot.forced = t.derivedPump.2)) ∧
  (∀ s : State, s.derivedPump =
    if s.pot.condCritical = true ∨ s.pot.criticalRecord = true then (0, true)
    else if s.line.state = .service then (s.pot.manualPump.getD 0, false)
    else if s.line.state = .idle ∨ s.line.state = .stopped then (0, true)
    else if s.heat.potMolten = false then (0, true)
    else match s.pot.gateBoard.bind fun g => s.trk.track.find? fun r => r.tag == g with
      | none => (s.L 35, false)
      | some r => match r.recipe with
        | none => (s.L 35, false)
        | some row => (s.P row 11, false)) ∧
  (∀ s : State, (derivePump s).trk.track =
    if s.derivedPump.2 = true ∧ s.pot.forced = false then
      s.trk.track.map fun r =>
        if r.waveEntry ≠ none ∧ r.dwell = none then { r with flags.waveInterrupted := true } else r
    else s.trk.track) ∧
  (∀ s : State,
    let led := s.trk.track.map (leadCrossed s)
    waveCrossings s = { s with
      trk.track := led.map fun r => match dwellAt s r with
        | none => r
        | some d => { r with dwell := some d, flags.dwellOut := r.flags.dwellOut || badDwell s r d }
      events := s.events ++ led.filterMap fun r => match dwellAt s r with
        | none => none
        | some d => if badDwell s r d then some (.raise .dwellOut r.tag.toNat (some d)) else none })

/-! Exhaust. -/

/-- The flow supervision back in stage 1 with the timer at 0, both conditions absent, each clearing if it was present (R101); the
model's own note of a taken FUME_LOSS falls with it (log entry 14), and FUME_FLOW_LOW's clear first is its choice (log entry 47). -/
def flowReset (s : State) : State :=
  { s with
    exh.flowTimer := 0, exh.stage := .one, exh.lossTaken := false, exh.condFlowLow := false, exh.condLoss := false
    events := s.events ++ (if s.exh.condFlowLow then [.clear .fumeFlowLow 0] else []) ++
      (if s.exh.condLoss then [.clear .fumeLoss 0] else []) }

/-- Fan demand (R96): the line state, a run-on, the open valve, or in SERVICE a manual source. -/
def demandBy (s : State) : Bool :=
  decide (s.line.state ≠ .idle ∧ s.line.state ≠ .service) || s.exh.runOn.isSome || s.exh.valveOpen ||
    (s.line.state == .service && (s.exh.manualFan.isSome || s.exh.srcHeater || s.exh.srcPump || s.exh.srcFeeder))

/-- FLOW_LOW_TIMER_EXPIRY by stage and RUN_ON_TIMER_EXPIRY (R97, R102): FUME_FLOW_LOW and stage 2, then FUME_LOSS at the limit,
each raised once with the latest flow; the run-on becomes absent and demand is derived again, a change of demand applying the row
of R101 and the fan command following (R96, R99); so do the reports of the valve and of the manual sources (R96, R98). Elsewhere
the commands change nothing (log entry 2), after FUME_LOSS under a raised limit too (the model's choice, log entry 38). -/
def Obligations.ExhaustTimers : Prop :=
  (∀ s : State, s.exh.demand = true → s.flowBand = .low → 0 < s.L 37 → s.exh.lossTaken = false →
    exec .flowLowTimerExpiry s = .next (settle (
      let value : Option Int := if s.exh.flowSensor = .none then none else s.exh.flow.map fun v => (v : Int)
      match s.exh.stage with
      | .one => { s with
          exh.stage := .two, exh.flowTimer := 0, exh.condFlowLow := true
          events := s.events ++ [.raise .fumeFlowLow 0 value] }
      | .two => { s with
          exh.flowTimer := s.L 37 * 1000, exh.condLoss := true, exh.lossTaken := true
          events := s.events ++ [.raise .fumeLoss 0 value] }))) ∧
  (∀ s : State, s.exh.demand = false ∨ s.flowBand ≠ .low ∨ s.L 37 = 0 ∨ s.exh.lossTaken = true →
    exec .flowLowTimerExpiry s = .next s) ∧
  (∀ s : State, exec .runOnTimerExpiry s = .next (
    if s.exh.runOn = none then s else settle (deriveDemand { s with exh.runOn := none }))) ∧
  (∀ (b : Bool) (s : State), handle (.valveReport b) s = deriveDemand { s with exh.valveOpen := b } ∧
    handle (.heaterReport b) s = deriveDemand { s with exh.srcHeater := b } ∧
    handle (.pumpReport b) s = deriveDemand { s with exh.srcPump := b } ∧
    handle (.feederReport b) s = deriveDemand { s with exh.srcFeeder := b }) ∧
  (∀ s : State, deriveDemand s = deriveFan (
    let u : State := { s with exh.demand := demandBy s }
    if demandBy s = s.exh.demand then s
    else if demandBy s = false ∨ u.flowBand = .recovered then flowReset u else u))

/-! Line. -/

/-- A retest of the settle condition in WARMUP (R128): false sets the timer to 0; true with a settle time of 0 makes the line
READY. -/
def settleRetested (s : State) : State :=
  if s.line.state ≠ .warmup then s
  else if settleCondition s = false then { s with line.settle := 0 }
  else if s.L 24 = 0 then changeLine .ready .settleTimer s
  else s

/-- The lamps of a line state, a holding severity and a WARN indication (R135). -/
def lampsOf (st : LineState) (h : Option Severity) (w : Bool) : Lamp × Lamp × Lamp :=
  (if st = .ready then .steady else if st = .warmup then .blinking else .off,
   if st = .drain then .blinking else if w = true then .steady else .off,
   if st = .stopped then .steady else if st = .idle ∧ h = some .stop then .blinking else .off)

/-- The LINE_STATE notice (R130, R147): code 4, the previous and the new state, the cause, the line clock. -/
def lineStateNotice (old new : LineState) (cause : LineCause) (c : ClockValue) : Telegram :=
  let num : LineState → Byte := fun st => BitVec.ofNat 8 ([.idle, .warmup, .ready, .drain, .stopped, .service].idxOf st)
  { dest := 63, kind := 5
    payload := [4, num old, num new,
        BitVec.ofNat 8 ([LineCause.directive, .settleTimer, .holdingSeverity, .lineRestart].idxOf cause)] ++
      be 2 c.days ++ [BitVec.ofNat 8 c.hours, BitVec.ofNat 8 c.minutes, BitVec.ofNat 8 c.seconds] }

/-- The line states that run the fan (R96, R97). -/
def fanState (st : LineState) : Bool := decide (st ≠ .idle ∧ st ≠ .service)

/-- SETTLE_TIMER_EXPIRY makes a WARMUP line READY while the settle condition of R128 holds and changes nothing elsewhere (log
entry 2). The condition is retested at a stored level, a change of the pot-molten flag, which derives the pump again (R87), a
change of an in-band flag, and an entry into WARMUP; a zone's in-band flag or target also brings the changeover hold up (R133). A
publication of the holding severity is stored and moves the lamps, and acts by the table of R129: STOP takes WARMUP, READY, DRAIN
and SERVICE to STOPPED; DRAIN takes READY to DRAIN and sets a WARMUP line's settle timer to 0; any other retests the settle
condition. A change of the line state (R130) is taken by every block: settle timer, HOLD, which zeroes the stall timer (R20),
PERMIT, lamps; loop states; spray eligibility; the feeder, whose attempt a new off cause discards (R79); the run-on, which an
entry into IDLE starts and a running state ends (R97), and fan demand; the pump; and the LINE_STATE notice is offered on UP
(R147). Leaving SERVICE ends every manual value and every mark, each marked and bound function getting its urgent zero (R168). The
model's choices: the notice is offered after every block has acted (log entry 5) and before the notices of alarms raised or cleared
at the change (log entry 52), the LINK_OVERRUN of a full queue carries no value (log entry 11), the pot controller takes a change of
the pot-molten flag before the line controller, and an in-band flag moves the settle condition before the changeover hold (log entry
58). -/
def Obligations.LineStateChange : Prop :=
  (∀ s : State,
    (settleCondition s = true → exec .settleTimerExpiry s = .next (settle (changeLine .ready .settleTimer s))) ∧
      (settleCondition s = false → exec .settleTimerExpiry s = .next s)) ∧
  (∀ (i : Nat) (s : State),
    handle .levelStored s = settleRetested s ∧ handle .potMoltenChanged s = settleRetested (derivePump s) ∧
      handle (.inBandChanged i) s = (if i < 4 then changeoverEval (settleRetested s) else settleRetested s) ∧
      handle (.targetChanged i) s = (if i < 4 then changeoverEval s else s)) ∧
  (∀ (new : LineState) (cause : LineCause) (s : State), enterLine new cause s =
    if new = .warmup then settleRetested (changeLine new cause s) else changeLine new cause s) ∧
  (∀ (h : Option Severity) (w : Bool) (s : State),
    let lamps := lampsOf s.line.state h w
    let u : State := { s with
      line.holding := h, line.warn := w, pins.lampG := lamps.1, pins.lampA := lamps.2.1, pins.lampR := lamps.2.2 }
    handle (.published h w) s = (match h with
      | some .stop => if s.line.state = .idle ∨ s.line.state = .stopped then u else changeLine .stopped .holdingSeverity u
      | some .drain => if s.line.state = .ready then changeLine .drain .holdingSeverity u else settleRetested u
      | some .warn | some .note | none => settleRetested u)) ∧
  (∀ (new : LineState) (cause : LineCause) (s : State), s.heat.loops.length = 5 →
    let t := changeLine new cause s
    let off : Bool := new == .idle || new == .stopped || new == .service || s.pot.sensor == .fault || s.pot.sensor == .silent
    let notice := lineStateNotice s.line.state new cause s.line.clock
    t.line.state = new ∧ t.line.settle = 0 ∧ t.trk.condStall = s.trk.condStall ∧
      t.trk.stallTimer = (if new = .stopped then 0 else s.trk.stallTimer) ∧
      t.pins.hold = decide (new = .stopped) ∧ t.pins.permit = t.permitNow ∧
      (t.pins.lampG, t.pins.lampA, t.pins.lampR) = lampsOf new s.line.holding s.line.warn ∧
      (∀ i, i < 5 → (t.loopCtx i).state = t.derivedLoopState i) ∧
      t.flux.eligible = t.sprayEligible ∧ t.exh.demand = demandBy t ∧ t.pot.pump = t.derivedPump.1 ∧
      t.pot.feederCmd = t.derivedFeeder ∧ t.tab = s.tab ∧ t.ldr = s.ldr ∧
      t.exh.runOn = (if fanState new = true then none
        else if new = .idle ∧ fanState s.line.state = true then (if s.L 38 = 0 then none else some 0)
        else s.exh.runOn) ∧
      t.pot.feeder = (if s.pot.jam = true then s.pot.feeder
        else match s.pot.feeder with
          | .off => if off = true then .off else .idle
          | .idle => if off = true then .off else .idle
          | .feeding => if off = true then .off else .feeding
          | .paused => if off = true then .off else .paused
          | .jammed => .jammed) ∧
      (s.pot.jam = false → off = true → s.pot.feeder = .feeding ∨ s.pot.feeder = .paused →
        t.pot.feedTimer = none ∧ t.pot.baseline = none ∧ t.pot.feedDrive = 0 ∧ t.pot.failures = s.pot.failures) ∧
      t.net.upNormal = (normalOffered notice s).net.upNormal ∧ t.net.upTx = (normalOffered notice s).net.upTx ∧
      (s.net.upLink = true → 16 ≤ s.upNormalOccupancy → t.events.getLast? = some (.raise .linkOverrun 0 none)) ∧
      (s.line.state = .service →
        (∀ i, i < 5 → (t.loopCtx i).manual = none) ∧ t.pot.manualPump = none ∧ t.pot.manualFeeder = none ∧
        t.exh.manualFan = none ∧ t.filt.marks = List.replicate 8 false ∧
        (∀ f, s.marked f = true → (s.outputRow f).bound = true →
          (f ∈ t.net.downUrgent ∨ t.net.downTx = some (outputOf s f 0)) ∧ f ∉ t.net.downSlots.map fun p => p.1)))

/-- The changeover hold (R132, R133) and PERMIT (R131) at an evaluation, whole: the prospective recipe is the head announce's, or
row 0 by the unannounced policy; the hold clears for none, for the last-entered and for the admitted recipe, and for one whose
release condition holds, which becomes the admitted recipe; else it is set. The evaluation ends each position advance, record change
and announce change at the other blocks (R22), an append setting the admitted recipe to none first. The order of those blocks, flux,
heat, pot, line, is the model's choice (log entry 58). -/
def Obligations.ChangeoverHold : Prop :=
  (∀ s : State, changeoverEval s =
    let P : Option Row := match s.trk.announces with
      | a :: _ => some a.row
      | [] => if s.L 17 = 0 ∧ s.rowDefined 0 = true then some 0 else none
    let u : State := match P with
      | none => { s with line.changeover := false, line.holdRecipe := none }
      | some p =>
        if s.trk.lastEntered = some p ∨ s.line.admitted = some p then
          { s with line.changeover := false, line.holdRecipe := none }
        else if (s.trk.track.all fun r => beyond s.trk.position r (s.L 11)) = true ∧
            ([0, 1, 2, 3].all fun i => decide (s.K i 5 = 0 ∨
              ((s.loopCtx i).inBand = true ∧ (s.trk.announces = [] ∨ (s.loopCtx i).target = s.P p (6 + i))))) = true then
          { s with line.changeover := false, line.holdRecipe := none, line.admitted := some p }
        else { s with line.changeover := true, line.holdRecipe := some p }
    let gap : Bool := match s.trk.track.getLast? with
      | none => true
      | some r => beyond s.trk.position r (s.L 16)
    { u with
      pins.permit := decide (s.line.state = .ready ∧ s.trk.track.length < 16 ∧ gap = true ∧ u.line.changeover = false) }) ∧
  (∀ s : State,
    let passed := waveCrossings (evalGate (evalTargets (fluxEvaluate s)))
    handle .advance s = changeoverEval passed ∧ handle (.recordChange false) s = changeoverEval passed ∧
      handle (.recordChange true) s = changeoverEval { passed with line.admitted := none } ∧
      handle .announceChange s = changeoverEval (evalTargets s))

/-- A clock value as seconds since day 0. -/
def clockTotal (c : ClockValue) : Nat := ((c.days * 24 + c.hours) * 60 + c.minutes) * 60 + c.seconds

/-- The fields of a clock value lie in their ranges (R138). -/
def clockInRange (c : ClockValue) : Prop := c.days ≤ 65535 ∧ c.hours ≤ 23 ∧ c.minutes ≤ 59 ∧ c.seconds ≤ 59

/-- SECOND_TIMER_EXPIRY (R138): the second timer restarts; while RUNNING the clock goes on by one second, its carries included,
wrapping after day 65535; while HELD it stands; nothing else changes. CLOCK HOLD, CLOCK SET and CLOCK RUN (R139): the clock stops or
runs from its value; a set is refused while RUNNING and lowers each field to its range. -/
def Obligations.LineClock : Prop :=
  (∀ s : State, s.events = [] → clockInRange s.line.clock → ∃ c : ClockValue,
    exec .secondTimerExpiry s = .next { s with line.second := 0, line.clock := c } ∧ clockInRange c ∧
      (s.line.clockRunning = false → c = s.line.clock) ∧
      (s.line.clockRunning = true → clockTotal c = (clockTotal s.line.clock + 1) % (65536 * 86400))) ∧
  (∀ (r : Requester) (e : Nat) (s : State), Accepts r e s →
    exec (.clockHold r) s = .next (settle (answered r [0] { taken s with line.clockRunning := false })) ∧
    exec (.clockRun r) s = .next (settle (answered r [0] { taken s with line.clockRunning := true })) ∧
    (∀ (d : BitVec 16) (h m sec : Byte), exec (.clockSet r d h m sec) s = .next (settle (
      if s.line.clockRunning = true then answered r [9] (taken s)
      else answered r [if 23 < h.toNat ∨ 59 < m.toNat ∨ 59 < sec.toNat then 1 else 0]
        { taken s with line.clock := ⟨d.toNat, min h.toNat 23, min m.toNat 59, min sec.toNat 59⟩ }))))

/-! Station loop. -/

/-- LINK_DOWN, LINK_UP and IDLE_FILL_RECEPTION on both ports (R142, R143): a lost UP link empties both UP queues; the loss is
raised and the return clears it; hearing a link that is UP restarts its silence timer. The model's choices here: LINK_DOWN on a
link that is DOWN and LINK_UP on one that is UP (log entries 2, 20), the clear reported whenever a DOWN link is heard (log entry
31), and that both raises carry no value (log entry 11). -/
def Obligations.LinkStates : Prop :=
  (∀ s : State, exec (.linkDown .up) s = .next (
    if s.net.upLink then settle { s with
      net.upLink := false, net.upSilence := 20, net.upUrgent := [], net.upNormal := [], net.upFair := 0
      events := s.events ++ [.raise .supervisorLinkLost 0 none] }
    else s)) ∧
  (∀ s : State, exec (.linkDown .down) s = .next (
    if s.net.downLink then settle { s with
      net.downLink := false, net.downSilence := 20, events := s.events ++ [.raise .fieldLinkLost 0 none] }
    else s)) ∧
  (∀ s : State,
    let t := settle { s with
      net.upLink := true, net.upSilence := 0
      events := if s.net.upLink then s.events else s.events ++ [.clear .supervisorLinkLost 0] }
    exec (.linkUp .up) s = .next t ∧ exec (.idleFillReception .up) s = .next t) ∧
  (∀ s : State,
    let t := settle { s with
      net.downLink := true, net.downSilence := 0
      events := if s.net.downLink then s.events else s.events ++ [.clear .fieldLinkLost 0] }
    exec (.linkUp .down) s = .next t ∧ exec (.idleFillReception .down) s = .next t)

/-- The envelope (R144). TELEGRAM_RECEIVED with a run that fails a check (the start value, the length field, the exact length, the
destination, the source or the CRC): it is discarded, and only the port's bad-telegram count rises, saturating at 65,535. The
envelope the part builds passes its own receive checks and reads back field for field. -/
def Obligations.Envelope : Prop :=
  (∀ (p : Port) (run : List Byte) (s : State),
    run.length < 7 ∨ run.getD 0 0 ≠ 0xD5 ∨ 60 < (run.getD 4 0).toNat ∨ run.length ≠ (run.getD 4 0).toNat + 7 ∨
      63 < (run.getD 1 0).toNat ∨ 62 < (run.getD 2 0).toNat ∨
      run.drop (run.length - 2) ≠ be 2 (crc16 ((run.drop 1).take (run.length - 3))).toNat →
    exec (.telegramReceived p run) s = .next (settle (
      match p with
      | .up => { s with net.upBad := min 65535 (s.net.upBad + 1) }
      | .down => { s with net.downBad := min 65535 (s.net.downBad + 1) }))) ∧
  (∀ (source dest kind : Nat) (payload : List Byte), source ≤ 62 → dest ≤ 63 → kind < 256 → payload.length ≤ 60 →
    checkRun (frame source dest kind payload) =
      some { dest := dest, source := source, kind := kind, payload := payload, raw := frame source dest kind payload } ∧
    (frame source dest kind payload).length = payload.length + 7)

/-- A bound output function owns a pair of an OUTPUT to a destination (R167). -/
def ownsPair (u : State) (dest ch : Nat) (f : OutFn) : Bool :=
  (u.outputRow f).bound && (u.outputRow f).channel == ch && ((u.outputRow f).node == dest || dest == 63)

/-- A good telegram that no block takes (R145, R149, R167): neither a SAMPLE nor an OUTPUT; a SAMPLE to one station; a malformed
broadcast SAMPLE; an OUTPUT from downstream; from upstream a malformed OUTPUT or one that owns no pair. -/
def passesOn (p : Port) (t : Received) (u : State) : Prop :=
  (t.kind ≠ 1 ∧ t.kind ≠ 2) ∨ (t.kind = 1 ∧ (t.dest ≠ 63 ∨ readSample t.payload = none)) ∨
    (t.kind = 2 ∧ (p = .down ∨ readOutput t.payload = none ∨
      ∃ pairs, readOutput t.payload = some pairs ∧ ∀ x ∈ pairs, ∀ f, ownsPair u t.dest x.1 f = false))

/-- A telegram forwarded to the other port byte for byte, or dropped with LINK_OVERRUN at a FIFO of 4 (R150); an idle transmitter
takes it at once (R153). -/
def passedOn (p : Port) (run : List Byte) (u : State) : State :=
  match p with
  | .up =>
    if 4 ≤ u.net.downFifo.length then u.raise .linkOverrun 0 none
    else State.wakeDown { u with net.downFifo := u.net.downFifo ++ [run] }
  | .down =>
    if 4 ≤ u.net.upFifo.length then u.raise .linkOverrun 1 none
    else State.wakeUp { u with net.upFifo := u.net.upFifo ++ [run] }

/-- TELEGRAM_RECEIVED with a good run (R149), its link heard first: the part's own telegram and one addressed to it that is not a
REQUEST on UP vanish; a REQUEST that finds no place raises LINK_OVERRUN (R152); a telegram that no block takes is passed on (R150,
R153). The model's choices: LINK_OVERRUN is raised without a value (log entry 11), and a link change comes before the disposition of
the telegram that brings it (log entry 57). -/
def Obligations.TelegramDisposition : Prop :=
  ∀ (p : Port) (run : List Byte) (t : Received) (s : State), checkRun run = some t →
    let u := settle (linkHeard p s)
    (t.source = u.net.address ∨ t.dest = u.net.address ∧ ¬(t.kind = 3 ∧ p = .up) →
      exec (.telegramReceived p run) s = .next (settle u)) ∧
    (t.source ≠ u.net.address → t.dest = u.net.address → t.kind = 3 → p = .up → 16 ≤ u.upNormalOccupancy →
      exec (.telegramReceived p run) s = .next (settle (u.raise .linkOverrun 0 none))) ∧
    (t.source ≠ u.net.address → t.dest ≠ u.net.address → passesOn p t u →
      exec (.telegramReceived p run) s = .next (settle (passedOn p run u)))

/-- The node status of a SAMPLE, tested for one function bound to its node (R165): FAULT, status 2, raises NODE_FAULT once with the
node address; another status ends it. -/
def nodeTested (status : Nat) (s : State) (f : OutFn) : State :=
  let had := s.filt.nodeFaults.getD (outFnNum f) false
  if status = 2 then
    if had then s
    else { s with
      filt.nodeFaults := s.filt.nodeFaults.set (outFnNum f) true
      events := s.events ++ [.raise .nodeFault (outFnNum f) (some ((s.outputRow f).node : Int))] }
  else { s with
    filt.nodeFaults := s.filt.nodeFaults.set (outFnNum f) false
    events := s.events ++ (if had then [.clear .nodeFault (outFnNum f)] else []) }

/-- The entry a pair of a SAMPLE matches: bound, with its node and channel (R157). -/
def entryMatched (s : State) (src ch : Nat) : Option Nat :=
  s.tab.channel.findIdx? fun r => decide (r.quantity ≠ .none ∧ r.node ≠ 0 ∧ r.node = src ∧ r.channel = ch)

/-- One pair of a SAMPLE (R160 to R163): an unmatched one is passed over; a fault code raises SENSOR_FAULT once and delivers no
value; a valid value ends a fault and a silence and is delivered converted; the age timer restarts. Where a fault code ends a
silence, the clear before the raise is the model's choice (log entry 45); so is SENSOR_FAULT's clear before SENSOR_SILENT's where a
valid value ends both (log entry 49). -/
def pairTaken (src : Nat) (s : State) (pair : Nat × Int) : State :=
  match entryMatched s src pair.1 with
  | none => s
  | some e =>
    let c := s.entryCtx e
    let q := (s.entryRow e).quantity
    if pair.2 = 32767 ∨ pair.2 = -32768 then
      { s with
        filt.entries := s.filt.entries.set e ⟨0, true, false⟩
        events := s.events ++ (if c.silent then [.clear .sensorSilent e] else []) ++
          (if c.fault then [] else [.raise .sensorFault e (some pair.2)]) ++
          (if c.fault = true ∧ c.silent = false then []
           else [.delivery q (some { fault := true, silent := false, begins := !c.fault }) none]) }
    else
      { s with
        filt.entries := s.filt.entries.set e ⟨0, false, false⟩
        events := s.events ++ (if c.fault then [.clear .sensorFault e] else []) ++
          (if c.silent then [.clear .sensorSilent e] else []) ++
          [.delivery q (if c.fault = true ∨ c.silent = true then some ⟨false, false, false⟩ else none)
            (some (convertRaw (s.entryRow e) pair.2))] }

/-- TELEGRAM_RECEIVED with a well-formed broadcast SAMPLE on either port (R157, R160 to R165): the node status is tested for every
function bound to the node, lowest function number first (the model's choice, log entry 43), then every pair in payload order; the
telegram is absorbed when each pair matches an entry whose forward column is 0, and passed on otherwise. A link change that the
telegram brings is taken before it (the model's choice, log entry 57). -/
def Obligations.SampleTaken : Prop :=
  ∀ (p : Port) (run : List Byte) (t : Received) (status : Nat) (pairs : List (Nat × Int)) (s : State),
    checkRun run = some t → t.dest = 63 → t.kind = 1 → readSample t.payload = some (status, pairs) →
    let u := settle (linkHeard p s)
    t.source ≠ u.net.address → u.net.address ≤ 62 →
    let fs : List OutFn := [.heat1, .heat2, .heat3, .heat4, .heatPot, .wavePump, .feeder, .exhaustFan].filter fun f =>
      decide ((u.outputRow f).bound = true ∧ (u.outputRow f).node = t.source)
    let v := settle (pairs.foldl (pairTaken t.source) (fs.foldl (nodeTested status) u))
    exec (.telegramReceived p run) s = .next (settle (
      let absorbed := pairs.all fun x => match entryMatched v t.source x.1 with
        | none => false
        | some e => !(v.entryRow e).forward
      if absorbed then v else passedOn p run v))

/-- The conversion of R159: the exact product of the raw value and the gain, divided by 1024 and rounded half away from zero, plus
the offset, clamped to the range of the quantity. -/
def Obligations.SampleConversion : Prop :=
  ∀ (r : ChannelRow) (raw : Int),
    let range : Int × Int := match r.quantity with
      | .potLevel => (0, 2000)
      | .exhaustFlow => (0, 10000)
      | .filterDp => (0, 5000)
      | .fluxPressure => (0, 1000)
      | _ => (-500, 5000)
    ∃ q : Int, convertRaw r raw = max range.1 (min range.2 (q + r.offset)) ∧
      2 * (raw * r.gain - 1024 * q).natAbs ≤ 1024 ∧
      (2 * (raw * r.gain - 1024 * q).natAbs = 1024 → (raw * r.gain).natAbs < 1024 * q.natAbs)

/-- Eligibility followed after a change of the pressure status or the mask (R33): a change of it leads to an evaluation (R32). -/
def eligibilityFollowed (s : State) : State :=
  if s.sprayEligible = s.flux.eligible then s else fluxEvaluate { s with flux.eligible := s.sprayEligible }

/-- A report for the FLUX_PRESSURE entry (R39, R163): an end alone does nothing; a beginning makes the status LOW, raising
FLUX_PRESSURE_LOW without a value and capturing its mask unless it was LOW, and eligibility follows. -/
def pressureReported (rep : Report) (s : State) : State :=
  if rep.begins = false then s
  else eligibilityFollowed (
    if s.flux.status = .low then s
    else { s with
      flux.status := .low, flux.mask := (s.policyOf .fluxPressureLow).masked
      events := s.events ++ [.raise .fluxPressureLow 0 none] })

/-- A report for the POT_LEVEL entry (R78, R79, R85, R163): the sensor status, and the feeder derived by the table of R79: a feeder
without a jam is OFF under an off cause, its attempt discarded, and an OFF one without is IDLE. -/
def levelReported (rep : Report) (s : State) : State :=
  let u : State := { s with pot.sensor := if rep.fault then .fault else if rep.silent then .silent else .good }
  let off := s.line.state = .idle ∨ s.line.state = .stopped ∨ s.line.state = .service ∨ rep.fault = true ∨ rep.silent = true
  if s.pot.jam then u
  else match s.pot.feeder with
    | .off => { u with pot.feeder := if off then .off else .idle }
    | .idle => { u with pot.feeder := if off then .off else .idle }
    | .feeding | .paused =>
      if off then
        deriveFeederCmd { u with pot.feeder := .off, pot.feedTimer := none, pot.baseline := none, pot.feedDrive := 0 }
      else u
    | .jammed => u

/-- The fault causes of a loop after a report for its entry (R48, R163). -/
def causesReported (report : Option Report) (c : Causes) : Causes :=
  match report with
  | none => c
  | some rep => { c with fault := rep.fault, silent := rep.silent }

/-- What the owners do with a value that arrives, alone or after a report that comes with it (R50, R78, R163): the flux pressure
status and captured mask, with FLUX_PRESSURE_LOW raised and cleared (R38), and the eligibility that follows (R33); the level, the
two level conditions with LEVEL_CRITICAL and LEVEL_OVER raised and cleared (R77; the order of the two is the model's choice, log
entry 51), the beginning and the end of a feed attempt (R80, R81), by a feeder the report has first derived anew (R79), and the
commands that follow; a loop's last temperature, its two sensor causes (R48), OVERTEMP condition and latch, with OVERTEMP raised and
cleared once (R49, R50); the exhaust flow and its supervision (R100, R101); the filter dp and FILTER_LOADED (R103). -/
def Obligations.ArrivalTables : Prop :=
  (∀ (s : State) (report : Option Report) (v : Nat),
    let u := match report with
      | none => s
      | some rep => pressureReported rep s
    let t := handle (.delivery .fluxPressure report (some (v : Int))) s
    let alarm : List Event := if v < s.L 40 ∧ u.flux.status ≠ .low then [.raise .fluxPressureLow 0 (some v)]
      else if s.L 40 + 10 ≤ v ∧ u.flux.status = .low then [.clear .fluxPressureLow 0] else []
    let valve : List Event := if t.flux.valveOpen = u.flux.valveOpen then [] else [.valveReport t.flux.valveOpen]
    let status : PressureStatus := if v < s.L 40 then .low
      else if v < s.L 40 + 10 then (if u.flux.status = .none then .normal else u.flux.status) else .normal
    let mask := if v < s.L 40 ∧ u.flux.status ≠ .low then (s.policyOf .fluxPressureLow).masked else u.flux.mask
    t = eligibilityFollowed { u with
        flux.pressure := some v, flux.status := status, flux.mask := mask, events := u.events ++ alarm } ∧
      t.flux.pressure = some v ∧ t.flux.status = status ∧ t.flux.mask = mask ∧ t.flux.eligible = t.sprayEligible ∧
      t.events = u.events ++ alarm ++ valve) ∧
  (∀ (s : State) (report : Option Report) (v : Nat),
    let u := match report with
      | none => s
      | some rep => levelReported rep s
    let t := handle (.delivery .potLevel report (some (v : Int))) s
    let speed := if s.pot.failures % 2 = 0 then s.L 31 else s.L 32
    let critical : List Event := if v ≤ s.L 29 then (if s.pot.condCritical = true then [] else [.raise .levelCritical 0 (some v)])
      else if s.L 29 + 20 ≤ v ∧ s.pot.condCritical = true then [.clear .levelCritical 0] else []
    let above : List Event := if s.L 30 ≤ v then (if s.pot.condOver = true then [] else [.raise .levelOver 0 (some v)])
      else if v + 20 ≤ s.L 30 ∧ s.pot.condOver = true then [.clear .levelOver 0] else []
    let feeder : List Event := if s.line.state = .service ∧ t.pot.feederCmd ≠ u.pot.feederCmd then
      [.feederReport (decide (0 < t.pot.feederCmd))] else []
    t.pot.level = some v ∧ t.pot.sensor = u.pot.sensor ∧
      t.pot.condCritical = (if v ≤ s.L 29 then true else if s.L 29 + 20 ≤ v then false else s.pot.condCritical) ∧
      t.pot.condOver = (if s.L 30 ≤ v then true else if (v : Int) ≤ (s.L 30 : Int) - 20 then false else s.pot.condOver) ∧
      (t.pot.feeder, t.pot.failures, t.pot.baseline, t.pot.feedTimer, t.pot.feedDrive) = (match u.pot.feeder with
        | .idle =>
          if v ≤ s.L 27 ∧ s.pot.gateBoard = none ∧ t.pot.condOver = false then
            (.feeding, s.pot.failures, some v, some { elapsed := 0, limit := s.L 33 * 1000 }, speed)
          else (.idle, s.pot.failures, u.pot.baseline, u.pot.feedTimer, u.pot.feedDrive)
        | .feeding | .paused =>
          if s.L 28 ≤ v then (.idle, 0, none, none, 0)
          else (u.pot.feeder, s.pot.failures, u.pot.baseline, u.pot.feedTimer, u.pot.feedDrive)
        | .off | .jammed => (u.pot.feeder, s.pot.failures, u.pot.baseline, u.pot.feedTimer, u.pot.feedDrive)) ∧
      t.pot.feederCmd = t.derivedFeeder ∧ t.pot.pump = t.derivedPump.1 ∧ t.pot.forced = t.derivedPump.2 ∧
      t.events = u.events ++ .levelStored :: critical ++ above ++ feeder) ∧
  (∀ (s : State) (i : Nat) (report : Option Report) (T : Int), i < 5 → s.heat.loops.length = 5 →
    let t := handle (.delivery (loopQuantity i) report (some T)) s
    let old := causesReported report (s.loopCtx i).causes
    let alarm : List Event :=
      if (s.K i 6 : Int) < T then (if s.K i 6 = 0 ∨ old.overtemp = true then [] else [.raise .overtemp (i + 1) (some T)])
      else if T ≤ (s.K i 6 : Int) - 50 ∧ old.overtemp = true then [.clear .overtemp (i + 1)] else []
    (t.loopCtx i).lastTemp = some T ∧
      (t.loopCtx i).causes = { old with
        overtemp := if (s.K i 6 : Int) < T then (old.overtemp || s.K i 6 != 0)
          else if T ≤ (s.K i 6 : Int) - 50 then false else old.overtemp
        latch := old.latch || (decide ((s.K i 6 : Int) < T) && s.K i 6 != 0 && !old.overtemp) } ∧
      (t.loopCtx i).state = t.derivedLoopState i ∧
      ∃ more : List Event, t.events = s.events ++ alarm ++ more ∧
        ∀ x ∈ more, x ≠ .clear .overtemp (i + 1) ∧ ∀ v, x ≠ .raise .overtemp (i + 1) v) ∧
  (∀ (s : State) (report : Option Report) (v : Nat),
    handle (.delivery .exhaustFlow report (some (v : Int))) s =
      let u : State := { s with exh.flow := some v, exh.flowSensor := .good }
      if s.exh.demand = false ∨ s.L 36 + s.L 36 / 20 ≤ v then flowReset u else u) ∧
  (∀ (s : State) (report : Option Report) (v : Nat),
    handle (.delivery .filterDp report (some (v : Int))) s =
      let u : State := { s with exh.dp := some v, exh.dpSensor := .good }
      if s.exh.demand = false then u
      else if s.L 39 = 0 ∨ v ≤ s.L 39 - s.L 39 / 10 then
        { u with
          exh.condLoaded := false
          events := if s.exh.condLoaded then s.events ++ [.clear .filterLoaded 0] else s.events }
      else if s.L 39 < v ∧ s.exh.condLoaded = false then
        { u with exh.condLoaded := true, events := s.events ++ [.raise .filterLoaded 0 (some v)] }
      else u)

/-- The exposure list after a value for a zone (R18): the zone's entry widened to it, or inserted in ascending zone order. -/
def exposed (zone : Nat) (T : Int) (l : List Exposure) : List Exposure :=
  let before := l.takeWhile fun e => decide (e.zone < zone)
  match l.dropWhile fun e => decide (e.zone < zone) with
  | [] => before ++ [{ zone := zone, low := T, high := T }]
  | e :: rest =>
    if e.zone = zone then before ++ { e with low := min e.low T, high := max e.high T } :: rest
    else before ++ { zone := zone, low := T, high := T } :: e :: rest

/-- Steps 1 to 3 of a temperature arrival (R50): the last temperature and the report that comes with it (R48); the value to the
records present in the zone (R17, R18), or loop 5's to the pot controller; the OVERTEMP condition and latch (R49). -/
def arrivalBegun (i : Nat) (report : Option Report) (T : Int) (s : State) : State :=
  let c := s.loopCtx i
  let x := causesReported report c.causes
  let limit : Int := s.K i 6
  let hot := decide (limit < T ∧ s.K i 6 ≠ 0 ∧ x.overtemp = false)
  let cooled := decide (T ≤ limit - 50 ∧ x.overtemp = true)
  let u := s.setLoop i { c with
    lastTemp := some T, causes := { x with overtemp := (x.overtemp || hot) && !cooled, latch := x.latch || hot } }
  { u with
    trk.track := if i = 4 then s.trk.track else s.trk.track.map fun r =>
      if s.L (4 + i) ≤ (s.trk.position - r.lead).toNat ∧ beyond s.trk.position r (s.L (8 + i)) = false then
        { r with exposure := exposed (i + 1) T r.exposure }
      else r
    pot.potTemp := if i = 4 then some T else s.pot.potTemp
    events := s.events ++ (if hot then [.raise .overtemp (i + 1) (some T)] else []) ++
      if cooled then [.clear .overtemp (i + 1)] else [] }

/-- Step 5 of a temperature arrival (R50, R58): the computation in ACTIVE, its duty commanded; the manual duty again in MANUAL. -/
def arrivalDriven (i : Nat) (T : Int) (s : State) : State :=
  let c := s.loopCtx i
  let out := computed (s.K i 0) (s.K i 1) (s.K i 2) (s.K i 3) s.time T c
  match c.state with
  | .active => State.commandValue (s.setLoop i out) (loopFn i) out.duty
  | .manual => State.commandValue (s.setLoop i { c with duty := c.manual.getD 0 }) (loopFn i) (c.manual.getD 0)
  | .off | .fault => s

/-- A temperature arrival for loop n, index n - 1, alone or with a report (R50), whole: steps 1 to 3 (arrivalBegun), the loop state
derived with its entry actions (HeatTimers; R45), the computation or the manual duty (arrivalDriven), the in-band and heat-fail
tests. In its parts: the records present in a zone (R17) take the value into their exposure (R18), and the pot controller takes loop
5's. With no OVERTEMP in it, where the report moves no state: an ACTIVE loop runs the computation and its duty is commanded and
offered (R58, R62), a MANUAL loop offers its manual duty again, a loop at rest offers nothing. Where the report ends the last cause
of a loop in FAULT that the line calls for, the loop is ACTIVE and computed with an elapsed time of 0. The in-band flag and, where its
condition is false, the heat-fail timer follow (R55 to R57). -/
def Obligations.HeatArrival : Prop :=
  ∀ (s : State) (i : Nat) (report : Option Report) (T : Int), i < 5 → s.heat.loops.length = 5 →
    let t := handle (.delivery (loopQuantity i) report (some T)) s
    let c := s.loopCtx i
    let d := t.loopCtx i
    let reported := s.setLoop i { c with causes := causesReported report c.causes }
    let out := computed (s.K i 0) (s.K i 1) (s.K i 2) (s.K i 3) s.time T c
    t = loopTested i (arrivalDriven i T (deriveLoop i (arrivalBegun i report T s))) ∧
    (i < 4 → t.trk.track = s.trk.track.map fun r =>
      if s.L (4 + i) ≤ (s.trk.position - r.lead).toNat ∧ beyond s.trk.position r (s.L (8 + i)) = false then
        { r with exposure := exposed (i + 1) T r.exposure }
      else r) ∧
    (i = 4 → t.trk.track = s.trk.track ∧ t.pot.potTemp = some T) ∧
    (c.state = .fault → reported.derivedLoopState i = .active → s.K i 6 = 0 ∨ T ≤ (s.K i 6 : Int) →
      d.state = .active ∧ d.lastComp = some s.time ∧ d.integrator = 0) ∧
    (c.state = reported.derivedLoopState i → s.K i 6 = 0 ∨ T ≤ (s.K i 6 : Int) → c.causes.overtemp = false →
      d.state = c.state ∧ d.target = c.target ∧ d.manual = c.manual ∧
      (c.state = .active → d.setpoint = out.setpoint ∧ d.remainder = out.remainder ∧ d.integrator = out.integrator ∧
        d.satHigh = out.satHigh ∧ d.satLow = out.satLow ∧ d.lastComp = some s.time ∧ d.duty = out.duty ∧
        t.net = (s.commandValue (loopFn i) out.duty).net) ∧
      (c.state = .manual → d.setpoint = c.setpoint ∧ d.integrator = c.integrator ∧ d.duty = c.manual.getD 0 ∧
        t.net = (s.commandValue (loopFn i) (c.manual.getD 0)).net) ∧
      (c.state = .off ∨ c.state = .fault → d.setpoint = c.setpoint ∧ d.integrator = c.integrator ∧ d.duty = c.duty ∧
        t.net = s.net)) ∧
    (d.inBand = true ↔ d.state = .active ∧ d.setpoint = d.target ∧ (T - d.target).natAbs ≤ s.K i 4) ∧
    (i = 4 → d.inBand = true → t.heat.potMolten = true) ∧
    (¬(d.state = .active ∧ d.duty = s.K i 2 ∧ T < (d.target : Int) - s.K i 4 ∧ 0 < s.L 26) →
      d.heatFailTimer = 0 ∧ d.heatFail = false)

/-- AGE_TIMER_EXPIRY of a bound entry with an age limit that is not yet silent raises SENSOR_SILENT and reports the silence to the
owner (R161, R163); elsewhere the command changes nothing (log entry 2), and that the raise carries no value is the model's choice
(log entry 11). What each owner does with a report of a beginning or end that comes without a value, whole (R163): a loop's two
sensor causes, and its state derived with the entry actions (R45, R48); the level sensor status, whose FAULT and SILENT put a feeder
without a jam in OFF and end its attempt, and whose GOOD takes an OFF feeder without an off cause to IDLE (R78, R79, R85); the two
sensor statuses of the exhaust monitor, which an end alone leaves as they stood (R100, R103); at a beginning the flux pressure
status LOW, with FLUX_PRESSURE_LOW raised once and its mask captured unless it was LOW, and eligibility following (R33, R39). -/
def Obligations.SilenceAndReports : Prop :=
  (∀ (e : Fin 32) (s : State), exec (.ageTimerExpiry e) s = .next (
    let row := s.entryRow e.val
    let c := s.entryCtx e.val
    if row.quantity ≠ .none ∧ row.node ≠ 0 ∧ 0 < row.ageLimit ∧ c.silent = false then
      settle { s with
        filt.entries := s.filt.entries.set e.val { c with age := row.ageLimit, silent := true }
        events := s.events ++ [.raise .sensorSilent e.val none,
          .delivery row.quantity (some { fault := c.fault, silent := true, begins := true }) none] }
    else s)) ∧
  (∀ (s : State) (i : Nat) (rep : Report), i < 5 → s.heat.loops.length = 5 →
    let t := handle (.delivery (loopQuantity i) (some rep) none) s
    t = deriveLoop i (s.setLoop i { s.loopCtx i with causes := causesReported (some rep) (s.loopCtx i).causes }) ∧
      (t.loopCtx i).causes = { (s.loopCtx i).causes with fault := rep.fault, silent := rep.silent } ∧
      (t.loopCtx i).lastTemp = (s.loopCtx i).lastTemp ∧ (t.loopCtx i).state = t.derivedLoopState i) ∧
  (∀ (s : State) (rep : Report),
    let t := handle (.delivery .potLevel (some rep) none) s
    t = levelReported rep s ∧ t.pot.level = s.pot.level ∧ t.pot.failures = s.pot.failures) ∧
  (∀ (s : State) (rep : Report),
    handle (.delivery .exhaustFlow (some rep) none) s =
      let u : State := { s with
        exh.flowSensor := if rep.fault then .fault else if rep.silent then .silent else s.exh.flowSensor }
      if s.exh.demand = false ∨ u.flowBand = .recovered then flowReset u else u) ∧
  (∀ (s : State) (rep : Report),
    handle (.delivery .filterDp (some rep) none) s =
      { s with exh.dpSensor := if rep.fault then .fault else if rep.silent then .silent else s.exh.dpSensor }) ∧
  (∀ (s : State) (rep : Report),
    let t := handle (.delivery .fluxPressure (some rep) none) s
    t = pressureReported rep s ∧ t.flux.pressure = s.flux.pressure ∧
      (rep.begins = true → t.flux.status = .low ∧ t.flux.eligible = t.sprayEligible) ∧
      t.events = s.events ++
        (if rep.begins = true ∧ s.flux.status ≠ .low then [.raise .fluxPressureLow 0 none] else []) ++
        (if t.flux.valveOpen = s.flux.valveOpen then [] else [.valveReport t.flux.valveOpen]))

/-- The functions that own pairs of an OUTPUT (R167), in payload order, those of one pair by ascending number (log entry 33). -/
def ownersInOrder (u : State) (dest : Nat) (pairs : List (Nat × Nat)) : List OutFn :=
  pairs.flatMap fun x =>
    ([.heat1, .heat2, .heat3, .heat4, .heatPot, .wavePump, .feeder, .exhaustFan] : List OutFn).filter (ownsPair u dest x.1)

/-- TELEGRAM_RECEIVED with an OUTPUT from upstream that owns a pair (R167, R168): outside SERVICE it is discarded and answered by a
REPLY with REFUSED(OWNED) and the function that owns the first owned pair; in SERVICE it is forwarded and its owners are marked.
Which function the REPLY names when several own that pair, the lowest number, and that a link change the telegram brings is taken
before it, are the model's choices (log entries 33, 57). -/
def Obligations.OutputOwned : Prop :=
  ∀ (run : List Byte) (t : Received) (pairs : List (Nat × Nat)) (f : OutFn) (rest : List OutFn) (s : State),
    checkRun run = some t → t.kind = 2 → readOutput t.payload = some pairs →
    let u := settle (linkHeard .up s)
    t.source ≠ u.net.address → t.dest ≠ u.net.address → ownersInOrder u t.dest pairs = f :: rest →
    exec (.telegramReceived .up run) s = .next (settle (
      if u.line.state = .service then
        State.forward { u with
          filt.marks := (f :: rest).foldl (fun m g => m.set (outFnNum g) true) u.filt.marks } .up run
      else u.offerUpNormal { dest := t.source, kind := 4, payload := [0, 14, BitVec.ofNat 8 (outFnNum f)] }))

/-- TELEGRAM_BOUNDARY on both ports (R153): the transmitter is idle, and the first row that applies is granted, the fairness count
moving with it. On DOWN an entry of an unbound or marked function is removed unsent (R151), upon which the arbiter goes on (the
model's choice, log entry 16). -/
def Obligations.TelegramBoundary : Prop :=
  (∀ s : State, exec (.telegramBoundary .up) s = .next (settle (upGranted { s with net.upTx := none }))) ∧
  (∀ s : State, exec (.telegramBoundary .down) s = .next (settle (downGranted { s with net.downTx := none })))

/-! Directives. -/

/-- A byte whose bits, bit 0 first, are the flags. -/
def flagByte (flags : List Bool) : Byte := (flags.zipIdx.map fun p => if p.1 = true then BitVec.ofNat 8 (2 ^ p.2) else 0).sum

/-- The bytes of a field that is sent only when present. -/
def whenPresent (n : Nat) (v : Option Int) : List Byte := (v.map fun x => beSigned n x).getD []

/-- IDENTIFY, READ TRACK and READ ALARMS answer their data and change nothing else (R24, R123, R174), the board record image and the
alarm images written out (R147, R148). The model's choices here: operands of a disabled filter are checked too (log entry 12), a
record without a recipe sends 0 for its row (log entry 41), and a raise value outside 32 bits is a free value (log entry 10). -/
def Obligations.ReadsAnswer : Prop :=
  ∀ (r : Requester) (e : Nat) (s : State), Accepts r e s →
    exec (.identify r) s = .next (settle (answered r [0, 0x0E, 0x54, 1, 16, 8, 32, 5, 32, 8, 24, 4] (taken s))) ∧
    (∀ index : Byte, exec (.readTrack r index) s = .next (settle (answered r (
      if 15 < index.toNat then [11]
      else match s.trk.track[index.toNat]? with
        | none => 2 :: be 1 s.trk.track.length
        | some b => 0 :: be 1 s.trk.track.length ++ boardImage b) (taken s)))) ∧
    (∀ (en kind : Byte) (source : BitVec 16) (sev st skip : Byte),
      exec (.readAlarms r en kind source sev st skip) s = .next (settle (answered r (
        if 1 ≤ kind.toNat ∧ kind.toNat ≤ 26 ∧ sev.toNat ≤ 3 ∧ st.toNat ≤ 2 ∧ skip.toNat ≤ 25 then
          let ms := (s.alm.records ++ s.alm.listFull.toList).filter fun a =>
            (!en.getLsbD 0 || alarmKindNum a.kind == kind.toNat) && (!en.getLsbD 1 || a.source == source.toNat) &&
              (!en.getLsbD 2 || decide (sev.toNat ≤ severityNum a.severity)) &&
              (!en.getLsbD 3 || alarmStateNum a.state == st.toNat)
          0 :: be 1 ms.length ++ ((ms.drop skip.toNat).take 2).flatMap alarmImage
        else [11]) (taken s)))) ∧
    (∀ b : BoardRecord,
      let f := b.flags
      let ex : Nat → Option Exposure := fun z => b.exposure.find? fun x => x.zone == z
      boardImage b =
        be 2 b.tag.toNat ++
          [BitVec.ofNat 8 ((b.recipe.map fun row => row.val).getD 0) +
            flagByte [false, false, false, false, false, b.recipe.isSome, b.trail.isSome, b.waveEntry.isSome],
           flagByte [f.unannounced, f.short, f.overlength, f.speedOut, f.dwellOut, f.waveInterrupted, f.purged, b.dwell.isSome],
           BitVec.ofNat 8 ([FluxState.none, .pending, .spraying, .done, .partially, .missed].idxOf b.flux) +
            flagByte [false, false, false, (ex 1).isSome, (ex 2).isSome, (ex 3).isSome, (ex 4).isSome, b.waveTemp.isSome],
           BitVec.ofNat 8 b.id.length] ++
          be 3 b.lead.toNat ++ be 2 b.entryTime.days ++
          [BitVec.ofNat 8 b.entryTime.hours, BitVec.ofNat 8 b.entryTime.minutes, BitVec.ofNat 8 b.entryTime.seconds] ++
          whenPresent 3 (b.trail.map fun p => (p.toNat : Int)) ++ whenPresent 4 (b.waveEntry.map fun t => (t.toNat : Int)) ++
          whenPresent 2 b.waveTemp ++ whenPresent 2 (b.dwell.map fun d => ((min d 65535 : Nat) : Int)) ++
          ([1, 2, 3, 4] : List Nat).flatMap (fun z => whenPresent 2 ((ex z).map fun x => x.low) ++ whenPresent 2 ((ex z).map fun x => x.high)) ++
          b.id) ∧
    (∀ a : AlarmRecord, (∀ v, a.value = some v → -2147483648 ≤ v ∧ v ≤ 2147483647) →
      let flags : Byte := BitVec.ofNat 8 (severityNum a.severity) + flagByte [false, false, a.masked] +
        BitVec.ofNat 8 (8 * [AlarmState.active, .acked, .cleared].idxOf a.state) +
        flagByte [false, false, false, false, false, a.value.isSome]
      let clock : ClockValue → List Byte := fun c =>
        be 2 c.days ++ [BitVec.ofNat 8 c.hours, BitVec.ofNat 8 c.minutes, BitVec.ofNat 8 c.seconds]
      let head := BitVec.ofNat 8 (alarmKindNum a.kind) :: be 2 a.source ++ [flags]
      alarmImage a = head ++ [BitVec.ofNat 8 ([LineState.idle, .warmup, .ready, .drain, .stopped, .service].idxOf a.lineState),
          BitVec.ofNat 8 a.count] ++ clock a.first ++ clock a.last ++ beSigned 4 (a.value.getD 0) ∧
        alarmShortImage a = head ++ [BitVec.ofNat 8 a.count] ++ clock a.last ++ beSigned 4 (a.value.getD 0))

/-- A value with a name: its place in the list of its rule (R176). -/
def placed {α : Type} [DecidableEq α] (names : List α) (v : α) : List Byte := [BitVec.ofNat 8 (names.idxOf v)]

/-- Values of two names: the first listed holds or not (R176). -/
def placedFlags (flags : List Bool) : List Byte := flags.flatMap (placed [true, false])

/-- A number that may be absent or none: the presence byte and the field (R176). -/
def presentOr (n : Nat) : Option Int → List Byte
  | none => 0 :: be n 0
  | some v => 1 :: beSigned n v

/-- A natural number that may be absent or none. -/
def natOr (n : Nat) (v : Option Nat) : List Byte := presentOr n (v.map fun x => (x : Int))

/-- The line block's values in the order of R140. -/
def lineBlock (s : State) : List Byte :=
  let P : Option Row := match s.trk.announces with
    | a :: _ => some a.row
    | [] => if s.L 17 = 0 ∧ s.rowDefined 0 = true then some 0 else none
  placed [LineState.idle, .warmup, .ready, .drain, .stopped, .service] s.line.state ++
    placed [none, some Severity.note, some .warn, some .drain, some .stop] s.line.holding ++ placedFlags [s.line.warn] ++
    be 4 (min s.line.settle 4294967295) ++ natOr 1 (P.map fun x => x.val) ++ placedFlags [s.line.changeover] ++
    natOr 1 (s.line.holdRecipe.map fun x => x.val) ++ natOr 1 (s.line.admitted.map fun x => x.val) ++
    placedFlags [s.pins.permit, s.pins.hold] ++
    [s.pins.lampG, s.pins.lampA, s.pins.lampR].flatMap (placed [Lamp.off, .steady, .blinking]) ++
    placedFlags [!s.line.clockRunning] ++ be 2 s.line.clock.days ++ be 1 s.line.clock.hours ++ be 1 s.line.clock.minutes ++
    be 1 s.line.clock.seconds

/-- The tracker block's values in the order of R25. -/
def trackerBlock (s : State) : List Byte :=
  be 3 s.trk.position.toNat ++ [s.trk.residue, s.trk.speed, s.trk.revDist].flatMap (be 2) ++
    placedFlags [s.trk.eyeBlocked, s.trk.candidate.isSome] ++ [s.trk.track.length, s.trk.announces.length].flatMap (be 1) ++
    natOr 1 (s.trk.announces.head?.map fun a => a.row.val) ++
    natOr 2 (s.trk.announces.head?.map fun a => min 65535 (s.time - a.arrival).toNat) ++
    natOr 1 (s.trk.lastEntered.map fun x => x.val) ++
    [s.trk.nextTag.toNat, s.trk.entered.toNat, s.trk.exited.toNat, s.trk.purged.toNat, min s.trk.stallTimer 65535].flatMap (be 2)

/-- The flux block's values in the order of R41. -/
def fluxBlock (s : State) : List Byte :=
  placedFlags [!s.flux.valveOpen, s.flux.eligible] ++ placed [PressureStatus.none, .normal, .low] s.flux.status ++
    natOr 2 s.flux.pressure ++ placedFlags [s.flux.mask] ++ be 2 s.flux.lv ++ natOr 2 (s.flux.bridge.map fun t => t.toNat) ++
    [Phase.before, .opened, .passed].flatMap (fun ph => be 1 (s.flux.windows.countP fun w => w.phase == ph)) ++
    be 4 (min s.flux.sprayTotal 4294967295)

/-- The values of loop n, index n - 1, in the order of R60. -/
def loopBlock (s : State) (i : Nat) : List Byte :=
  let c := s.loopCtx i
  placed [LoopState.off, .active, .fault, .manual] c.state ++
    placedFlags [c.causes.fault, c.causes.silent, c.causes.overtemp, c.causes.latch] ++ be 2 c.target ++
    beSigned 2 c.setpoint ++ be 2 c.remainder ++ be 3 c.integrator ++ placedFlags [c.satHigh, c.satLow] ++
    presentOr 2 c.lastTemp ++ be 2 c.duty ++ natOr 2 c.manual ++ placedFlags [c.inBand] ++
    be 4 (min c.heatFailTimer 4294967295) ++ be 4 (if i = 4 then 0 else min c.idleTimer 4294967295) ++
    natOr 2 (if i = 4 then none else (s.governing i).map fun r => r.tag.toNat)

/-- The pot block's values in the order of R93. -/
def potBlock (s : State) : List Byte :=
  natOr 2 s.pot.level ++ placedFlags [s.pot.condCritical, s.pot.condOver] ++
    placed [SensorStatus.good, .fault, .silent] (if s.pot.sensor = .none then .good else s.pot.sensor) ++
    placed [FeederState.off, .idle, .feeding, .paused, .jammed] s.pot.feeder ++ be 1 s.pot.failures ++ natOr 2 s.pot.baseline ++
    natOr 4 (s.pot.feedTimer.map fun t => t.elapsed) ++ natOr 4 (s.pot.feedTimer.map fun t => t.limit - t.elapsed) ++
    be 2 s.pot.feederCmd ++ placedFlags [s.pot.gateBoard.isNone] ++ natOr 2 (s.pot.gateBoard.map fun t => t.toNat) ++
    be 2 s.pot.pump ++ placedFlags [s.pot.forced] ++ natOr 2 s.pot.manualPump ++ natOr 2 s.pot.manualFeeder ++
    presentOr 2 s.pot.potTemp

/-- The exhaust block's values in the order of R104. -/
def exhaustBlock (s : State) : List Byte :=
  let manual := s.exh.manualFan.isSome || s.exh.srcHeater || s.exh.srcPump || s.exh.srcFeeder
  let band : Nat := match (if s.exh.flowSensor = .good then s.exh.flow else none) with
    | none => 0
    | some v => if v < s.L 36 then 0 else if v < s.L 36 + s.L 36 / 20 then 1 else 2
  placedFlags [s.exh.demand, s.line.state != .idle && s.line.state != .service, s.exh.runOn.isSome, s.exh.valveOpen,
      s.line.state == .service && manual] ++
    natOr 4 s.exh.runOn ++ natOr 2 s.exh.manualFan ++ placedFlags [s.exh.srcHeater, s.exh.srcPump, s.exh.srcFeeder] ++
    be 2 s.exh.fan ++ natOr 2 s.exh.flow ++ placed [SensorStatus.none, .good, .fault, .silent] s.exh.flowSensor ++
    be 1 band ++ be 1 (if s.exh.stage = .one then 1 else 2) ++ be 4 s.exh.flowTimer ++ placedFlags [s.exh.condFlowLow, s.exh.condLoss] ++
    natOr 2 s.exh.dp ++ placed [SensorStatus.none, .good, .fault, .silent] s.exh.dpSensor ++ placedFlags [s.exh.condLoaded]

/-- The links block's values in the order of R155; the UP normal occupancy counts the reserved place. -/
def linksBlock (s : State) : List Byte :=
  be 1 s.net.address ++ placedFlags [s.net.addressOpen, s.net.upLink, s.net.downLink] ++
    [s.net.upBad, s.net.downBad].flatMap (be 2) ++
    [s.net.downFifo.length, s.net.upFifo.length, s.net.downUrgent.length, s.net.downSlots.length, s.net.upUrgent.length,
      s.net.upNormal.length + (if s.net.reserved.isSome then 1 else 0), s.net.upFair, s.net.downFair].flatMap (be 1)

/-- The loader block's values for station entry e, in the order of R182; the class is the row's class cell, also for an entry without
a class (the model's choice, log entry 54). -/
def loaderBlock (e : Nat) (s : State) : List Byte :=
  be 1 e ++ placed [StationClass.operate, .service] (s.tab.station.getD e {}).cls ++
    (match s.ldr.cursors.getD e none with
      | none => 1 :: List.replicate 8 0
      | some c => 0 :: [c.table, c.firstRow, c.lastRow, c.firstCol, c.lastCol].flatMap (be 1) ++ placedFlags [!c.columnMode] ++
          [c.row, c.col].flatMap (be 1)) ++
    be 4 ((List.finRange 32).foldl (fun n row => n + if s.rowDefined row = true then 2 ^ row.val else 0) 0) ++
    s.tab.written.flatMap fun row => be 1 (row.countP id)

/-- READ STATUS (R175, R176): a selector above 7 is refused; part 0 takes the block's image as the entry's snapshot and answers its
first 48 bytes; a later part reads that snapshot, NOT_FOUND without one of the selector, REFUSED(RANGE) past its last part. The
eight images are written out (R25, R41, R60, R93, R104, R140, R155, R182). The model's choices here: values of two names are numbered
in the listed order (log entry 19), the remaining feed time is 0 where it has no value (log entry 35), and the loader block's class
is the row's class cell (log entry 54). -/
def Obligations.ReadStatus : Prop :=
  ∀ (r : Requester) (e : Nat) (s : State) (sel part : Byte), Accepts r e s →
    (7 < sel.toNat → exec (.readStatus r sel part) s = .next (settle (answered r [11] (taken s)))) ∧
    (∀ image, statusImage e sel.toNat (taken s) = some image → part = 0 →
      exec (.readStatus r sel part) s = .next (settle (answered r
        (0 :: 0 :: be 1 ((image.length + 47) / 48) ++ image.take 48)
        { taken s with ldr.snapshots := s.ldr.snapshots.set e (some ⟨sel.toNat, image⟩) }))) ∧
    (sel.toNat ≤ 7 → part ≠ 0 →
      exec (.readStatus r sel part) s = .next (settle (answered r (
        match s.ldr.snapshots.getD e none with
        | none => [2]
        | some snap =>
          if snap.selector ≠ sel.toNat then [2]
          else if (snap.image.length + 47) / 48 ≤ part.toNat then [11]
          else 0 :: part :: be 1 ((snap.image.length + 47) / 48) ++ (snap.image.drop (48 * part.toNat)).take 48)
        (taken s)))) ∧
    (∀ u : State, (List.range 8).map (fun n => statusImage e n u) =
      [lineBlock u, trackerBlock u, fluxBlock u, (List.range 5).flatMap (loopBlock u) ++ placedFlags [u.heat.potMolten], potBlock u,
        exhaustBlock u, linksBlock u, loaderBlock e u].map some) ∧
    (∀ u : State, (statusImage e 3 u).map (fun image => image.length) = some 181)

/-- A cursor after one value (R178): the next column in ROW mode, the next row in COLUMN mode, past the edge the first again. -/
def advanced (c : Cursor) : Cursor :=
  match c.columnMode with
  | false => { c with col := if c.lastCol ≤ c.col then c.firstCol else c.col + 1 }
  | true => { c with row := if c.lastRow ≤ c.row then c.firstRow else c.row + 1 }

/-- The value of the cell under a cursor, by table (R180, R184): RECIPE, LINE, LOOP, CHANNEL (R157), OUTPUT (R166), POLICY (R108),
STATION, 255 for an empty entry's address (R177). -/
def valueHeld (s : State) (c : Cursor) : Int :=
  match c.table with
  | 0 => (s.tab.recipe.getD c.row []).getD c.col 0
  | 1 => s.L c.col
  | 2 => s.K c.row c.col
  | 3 =>
    let r := s.tab.channel.getD c.row {}
    let names : List Quantity :=
      [.none, .zoneTemp1, .zoneTemp2, .zoneTemp3, .zoneTemp4, .potTemp, .potLevel, .exhaustFlow, .filterDp, .fluxPressure]
    ([(r.node : Int), r.channel, names.idxOf r.quantity, r.gain, r.offset, if r.forward then 1 else 0] : List Int).getD c.col
      r.ageLimit
  | 4 =>
    let r := s.tab.output.getD c.row {}
    ([r.node, r.channel] : List Int).getD c.col (if r.bound then 1 else 0)
  | 5 =>
    let r := s.tab.policy.getD c.row { severity := .note }
    if c.col = 0 then (([.note, .warn, .drain, .stop] : List Severity).idxOf r.severity : Nat) else if r.masked then 1 else 0
  | _ =>
    let r := s.tab.station.getD c.row {}
    if c.col = 0 then (r.address.getD 255 : Nat) else if r.cls = .service then 1 else 0

/-- SET CURSOR and READ RUN (R178, R181): a cursor is placed on a window inside its table or refused, with the rows and columns of
R184; a run reads cells from the cursor on, which is left at its last advance. -/
def Obligations.CursorAndReadRun : Prop :=
  ∀ (r : Requester) (e : Nat) (s : State), Accepts r e s →
    (∀ t r0 r1 c0 c1 m : Byte, exec (.setCursor r t r0 r1 c0 c1 m) s = .next (settle (
      if t.toNat ≤ 6 ∧ m.toNat ≤ 1 ∧ r0.toNat ≤ r1.toNat ∧ c0.toNat ≤ c1.toNat ∧
          r1.toNat < ([32, 1, 5, 32, 8, 25, 4] : List Nat).getD t.toNat 0 ∧
          c1.toNat < ([16, 43, 7, 7, 3, 2, 2] : List Nat).getD t.toNat 0 then
        answered r [0] { taken s with ldr.cursors := s.ldr.cursors.set e (some {
          table := t.toNat, firstRow := r0.toNat, lastRow := r1.toNat, firstCol := c0.toNat, lastCol := c1.toNat,
          columnMode := m.toNat == 1, row := r0.toNat, col := c0.toNat }) }
      else answered r [11] (taken s)))) ∧
    (∀ n : Byte, exec (.readRun r n) s = .next (settle (
      if n.toNat = 0 ∨ 28 < n.toNat then answered r [11] (taken s)
      else match s.ldr.cursors.getD e none with
        | none => answered r [9] (taken s)
        | some c =>
          answered r (0 :: (List.range n.toNat).flatMap fun k =>
              beSigned 2 (valueHeld s (advanced^[k] c)))
            { taken s with ldr.cursors := s.ldr.cursors.set e (some (advanced^[n.toNat] c)) })))

/-- WRITE RUN of one value to a recipe cell (R179, R180, R185): a pinned row refuses it; else the clamped value is stored, the cell
is marked written, the cursor advances, and the changeover hold is evaluated when row 0 becomes DEFINED; an unset cursor is
refused. -/
def Obligations.WriteRunRecipe : Prop :=
  ∀ (r : Requester) (e : Nat) (s : State) (v : BitVec 16), Accepts r e s → s.ldr.fresh = List.replicate 4 false →
    (s.ldr.cursors.getD e none = none →
      exec (.writeRun r [v]) s = .next (settle (answered r [9, 0] (taken s)))) ∧
    (∀ c : Cursor, s.ldr.cursors.getD e none = some c → c.table = 0 →
      exec (.writeRun r [v]) s = .next (settle (
        if 0 < s.trk.pins.getD c.row 0 then answered r [10, 0] (taken s)
        else
          let w : Nat := (max (recipeRange c.col).1 (min (recipeRange c.col).2 (v.toNat : Int))).toNat
          let u : State := { taken s with
            tab.recipe := s.tab.recipe.set c.row ((s.tab.recipe.getD c.row []).set c.col w)
            tab.written := s.tab.written.set c.row ((s.tab.written.getD c.row []).set c.col true) }
          let x := if s.rowDefined 0 = false ∧ u.rowDefined 0 = true then changeoverEval u else u
          answered r [if w = v.toNat then 0 else 1, 1]
            { x with ldr.cursors := s.ldr.cursors.set e (some (advanced c)) })))

/-- The range of a column, by table (R157, R166, R185 to R187). -/
def columnRange (table col : Nat) : Int × Int :=
  match table with
  | 0 => ([(0, 1000), (0, 1000), (0, 1), (0, 500), (0, 500), (0, 2000), (0, 3500), (0, 3500), (0, 3500), (0, 3500), (500, 6000),
      (0, 1000), (0, 3000), (0, 3000)] : List (Int × Int)).getD col (0, 20000)
  | 1 => if col = 0 then (1, 4096) else (0, ([0, 200, 65535, 500, 65535, 65535, 65535, 65535, 65535, 65535, 65535, 65535, 65535,
      65535, 65535, 6000, 65535, 1, 3500, 3500, 3500, 3500, 65535, 4000, 65535, 65535, 65535, 2000, 2000, 2000, 2000, 1000, 1000,
      65535, 2000, 1000, 10000, 65535, 65535, 5000, 1000] : List Int).getD col 65535)
  | 2 => (0, ([4095, 1023, 1000, 500, 500, 1] : List Int).getD col 5000)
  | 3 => ([(1, 62), (0, 7), (0, 9), (-32768, 32767), (-10000, 10000), (0, 1)] : List (Int × Int)).getD col (0, 10000)
  | _ => ([(1, 62), (0, 7)] : List (Int × Int)).getD col (0, 1)

/-- A run value as its column reads it: CHANNEL's gain and offset are signed (R179). -/
def valueRead (c : Cursor) (w : BitVec 16) : Int := if c.table = 3 ∧ (c.col = 3 ∨ c.col = 4) then w.toInt else w.toNat

/-- Step 4 of R179, the value after the column's range and its write rule: an age limit of 1 to 9 is 10 (R157); the policy rows of
OVERTEMP, TRACK_OVERFLOW, LEVEL_CRITICAL, FUME_LOSS and FIELD_LINK_LOST keep severity 3 and mask 0 (R108); a station address above
62 is 255 (R177). -/
def valueStored (c : Cursor) (v : Int) : Int :=
  let floored := c.row ∈ [2, 6, 16, 20, 22]
  if c.table = 3 ∧ c.col = 6 ∧ 1 ≤ v ∧ v ≤ 9 then 10
  else if c.table < 5 then max (columnRange c.table c.col).1 (min (columnRange c.table c.col).2 v)
  else if c.table = 5 then
    if c.col = 0 then max (if floored then 3 else 0) (min 3 v) else max 0 (min (if floored then 0 else 1) v)
  else if c.col = 0 then (if 62 < v then 255 else v)
  else max 0 (min 1 v)

/-- A CHANNEL row with a cell written (R157). -/
def channelStored (r : ChannelRow) (col : Nat) (v : Int) : ChannelRow :=
  let names : List Quantity := [.none, .zoneTemp1, .zoneTemp2, .zoneTemp3, .zoneTemp4, .potTemp, .potLevel, .exhaustFlow, .filterDp]
  { r with
    node := if col = 0 then v.toNat else r.node, channel := if col = 1 then v.toNat else r.channel
    quantity := if col = 2 then names.getD v.toNat .fluxPressure else r.quantity
    gain := if col = 3 then v else r.gain, offset := if col = 4 then v else r.offset
    forward := if col = 5 then decide (v = 1) else r.forward, ageLimit := if 6 ≤ col then v.toNat else r.ageLimit }

/-- An OUTPUT row with a cell written (R166). -/
def outputStored (r : OutputRow) (col : Nat) (v : Int) : OutputRow :=
  { r with
    node := if col = 0 then v.toNat else r.node, channel := if col = 1 then v.toNat else r.channel
    bound := if 2 ≤ col then decide (v = 1) else r.bound }

/-- A STATION row with a cell written (R177). -/
def stationStored (r : StationRow) (col : Nat) (v : Int) : StationRow :=
  { r with
    address := if col = 0 then (if 62 < v then none else some v.toNat) else r.address
    cls := if col = 0 then r.cls else if v = 1 then .service else .operate }

/-- Step 5 of R179: CHANNEL's node, channel and quantity (R158), OUTPUT (R166), STATION (R177); the other tables pass. -/
def staysConsistent (s : State) (c : Cursor) (v : Int) : Bool :=
  match c.table with
  | 3 =>
    let n := channelStored (s.tab.channel.getD c.row {}) c.col v
    2 < c.col || n.quantity = .none || (n.node ≠ 0 && (s.tab.channel.eraseIdx c.row).all fun o =>
      o.quantity = .none || o.node = 0 || (o.quantity ≠ n.quantity && !(o.node = n.node && o.channel = n.channel)))
  | 4 =>
    let n := outputStored (s.tab.output.getD c.row {}) c.col v
    !n.bound || (n.node ≠ 0 && (s.tab.output.eraseIdx c.row).all fun o =>
      !o.bound || !(o.node = n.node && o.channel = n.channel))
  | 6 =>
    let n := stationStored (s.tab.station.getD c.row {}) c.col v
    ((s.tab.station.set c.row n).any fun o => o.address ≠ none && o.cls = .service) &&
      (n.address = none || (s.tab.station.eraseIdx c.row).all fun o => o.address ≠ n.address)
  | _ => true

/-- The refusal of a value at a cell, as its result byte (R146): ACCESS, STATE, PINNED, TABLE, in the order of R179, with the write
classes and line states of R184. -/
def valueRefusal (s : State) (e : Nat) (c : Cursor) (v : Int) : Option Byte :=
  if c.table ≠ 0 ∧ (s.tab.station.getD e {}).cls ≠ .service then some 8
  else if (c.table ∈ [1, 3, 4] ∨ c.table = 2 ∧ c.col = 5) ∧ s.line.state ≠ .idle ∧ s.line.state ≠ .service then some 9
  else if c.table = 0 ∧ 0 < s.trk.pins.getD c.row 0 then some 10
  else if staysConsistent s c v then none
  else some 13

/-- What the exhaust monitor does at a written line table column (R97, R100 to R102, R180): a run-on at or past a written L38 ends, the
flow supervision is tested, and a written L37 of 0 disables it: timer 0 and stage 1, the present conditions left standing (DEDUCED,
log entry 14). One at or below the timer expires it; a timer whose loss is taken already is set to the new limit without a second
raise (the model's choice, log entry 38). -/
def exhaustReads (col : Nat) (s : State) : State :=
  let u := match s.exh.runOn with
    | none => s
    | some ms => if col = 38 ∧ s.L 38 * 1000 ≤ ms then deriveDemand { s with exh.runOn := none } else s
  let w := if u.exh.demand = false ∨ u.flowBand = .recovered then flowReset u else u
  let value : Option Int := if w.exh.flowSensor = .none then none else w.exh.flow.map fun v => (v : Int)
  if col ≠ 37 then w
  else if w.L 37 = 0 then { w with exh.flowTimer := 0, exh.stage := .one, exh.lossTaken := false }
  else if w.exh.demand = false ∨ w.exh.flowTimer < w.L 37 * 1000 then w
  else if w.exh.lossTaken then { w with exh.flowTimer := w.L 37 * 1000 }
  else if w.exh.stage = .one then
    { w with
      exh.stage := .two, exh.flowTimer := 0, exh.condFlowLow := true, events := w.events ++ [.raise .fumeFlowLow 0 value] }
  else
    { w with
      exh.flowTimer := w.L 37 * 1000, exh.condLoss := true, exh.lossTaken := true
      events := w.events ++ [.raise .fumeLoss 0 value] }

/-- Step 6 of R179 with the owner's event (R180). RECIPE: the written mark, and the changeover hold (R133) where row 0 becomes DEFINED.
LINE: the valve lead distance at L3 (R30), then the heat, pot and line controllers and the exhaust monitor, in that order (the
model's choice, log entry 30). LOOP: K2 lowers the integrator, the manual and a commanded duty (R59, R64), a manual duty lowered to 0
staying a manual duty (DEDUCED, log entry 25); K4 and K2 bring the tests of R55 and R57, K5 the loop state (R45) and then the
changeover hold (R133; the order is the model's choice, log entry 58). CHANNEL: node, channel, quantity and age limit restart the entry first (R158), SENSOR_FAULT's clear before
SENSOR_SILENT's (the model's choice, log entry 49). OUTPUT: unbinding or moving ends NODE_FAULT (R165). POLICY: nothing more
(R108). STATION: a change marks the entry for a fresh start (R177). -/
def cellStored (c : Cursor) (v : Int) (s : State) : State :=
  match c.table with
  | 0 =>
    let u : State := { s with
      tab.recipe := s.tab.recipe.set c.row ((s.tab.recipe.getD c.row []).set c.col v.toNat)
      tab.written := s.tab.written.set c.row ((s.tab.written.getD c.row []).set c.col true) }
    if s.rowDefined 0 = false ∧ u.rowDefined 0 = true then changeoverEval u else u
  | 1 =>
    let u : State := { s with tab.line := s.tab.line.set c.col v.toNat }
    let w := if c.col = 3 then { u with flux.lv := u.trk.speed * u.L 3 / 1000 } else u
    exhaustReads c.col (changeoverEval (derivePump (evalGate (evalTargets w))))
  | 2 =>
    let u : State := { s with tab.loop := s.tab.loop.set c.row ((s.tab.loop.getD c.row []).set c.col v.toNat) }
    let k2 := u.K c.row 2
    let x := s.loopCtx c.row
    let low := u.setLoop c.row { x with integrator := min x.integrator (k2 * 256), manual := x.manual.map (min · k2) }
    if c.col = 2 then
      heatFailTest c.row (if (x.state = .active ∨ x.state = .manual) ∧ k2 < x.duty then sendDuty c.row k2 low else low)
    else if c.col = 4 then testLoop c.row u
    else if c.col = 5 then
      changeoverEval (deriveLoop c.row (if u.K c.row 5 = 0 then setManual c.row none u else u))
    else u
  | 3 =>
    let x := s.entryCtx c.row
    let u : State :=
      if 3 ≤ c.col ∧ c.col ≠ 6 then s
      else { s with
        filt.entries := s.filt.entries.set c.row {}
        events := s.events ++ (if x.fault then [.clear .sensorFault c.row] else []) ++
          (if x.silent then [.clear .sensorSilent c.row] else []) ++
          (if x.fault || x.silent then [.delivery (s.entryRow c.row).quantity (some ⟨false, false, false⟩) none] else []) }
    { u with tab.channel := s.tab.channel.set c.row (channelStored (s.tab.channel.getD c.row {}) c.col v) }
  | 4 =>
    let old := s.tab.output.getD c.row {}
    let new := outputStored old c.col v
    let f := outFnNum (fnOf c.row)
    let ends := (old.bound = true ∧ new.bound = false) ∨ new.node ≠ old.node ∨ new.channel ≠ old.channel
    { s with
      tab.output := s.tab.output.set c.row new
      filt.nodeFaults := if ends then s.filt.nodeFaults.set f false else s.filt.nodeFaults
      events := s.events ++ if ends ∧ s.filt.nodeFaults.getD f false = true then [.clear .nodeFault f] else [] }
  | 5 =>
    let old := s.tab.policy.getD c.row { severity := .note }
    let new : PolicyRow :=
      if c.col = 0 then { old with severity := ([.note, .warn, .drain] : List Severity).getD v.toNat .stop }
      else { old with masked := decide (v = 1) }
    { s with tab.policy := s.tab.policy.set c.row new }
  | _ =>
    let old := s.tab.station.getD c.row {}
    let new := stationStored old c.col v
    { s with
      tab.station := s.tab.station.set c.row new
      ldr.fresh := if new = old then s.ldr.fresh else s.ldr.fresh.set c.row true }

/-- The values of a run in order (R179): the result bytes, and the state after the last written value and its events. At the first
refusal the run stops with the cursor on the refused cell; n values are written so far, lowered tells whether one was clamped. -/
def valuesWritten (e : Nat) : List (BitVec 16) → Nat → Bool → State → List Byte × State
  | [], n, lowered, s => ([if lowered then 1 else 0, BitVec.ofNat 8 n], s)
  | w :: ws, n, lowered, s =>
    match s.ldr.cursors.getD e none with
    | none => ([9, BitVec.ofNat 8 n], s)
    | some c =>
      let v := valueRead c w
      match valueRefusal s e c (valueStored c v) with
      | some b => ([b, BitVec.ofNat 8 n], s)
      | none =>
        let u := settle (cellStored c (valueStored c v) s)
        valuesWritten e ws (n + 1) (lowered || valueStored c v ≠ v)
          { u with ldr.cursors := u.ldr.cursors.set e (some (advanced c)) }

/-- The end of a run (R177, R183): an entry it changed has no cursor and no snapshot. -/
def freshened (s : State) : State :=
  { s with
    ldr.cursors := s.ldr.cursors.mapIdx fun i c => if s.ldr.fresh.getD i false = true then none else c
    ldr.snapshots := s.ldr.snapshots.mapIdx fun i x => if s.ldr.fresh.getD i false = true then none else x
    ldr.fresh := List.replicate 4 false }

/-- WRITE RUN of any values into any table, whole (R177 to R180, R184 to R187): each value is checked, clamped, written with its
owner's event and its internal events, and the cursor advances; a run that changes its own station entry goes on to its end. An
unset cursor refuses it. Not the spec's but the model's in it: at a written L37 of 0 the present conditions stand (log entry 14); a
manual duty that K2 lowers to 0 stays one (log entry 25); the owners' order at a line column (log entry 30); a taken FUME_LOSS under
a new L37 (log entry 38); the order of two clears at once (log entries 47, 49); the heat before the line controller at K5 (log entry
58). -/
def Obligations.WriteRunValues : Prop :=
  ∀ (r : Requester) (e : Nat) (s : State) (values : List (BitVec 16)), Accepts r e s →
    (s.ldr.cursors.getD e none = none →
      exec (.writeRun r values) s = .next (settle (answered r [9, 0] (taken s)))) ∧
    (∀ c : Cursor, s.ldr.cursors.getD e none = some c →
      let x := valuesWritten e values 0 false (taken s)
      exec (.writeRun r values) s = .next (settle (answered r x.1 (settle (freshened x.2)))))

/-- WRITE RUN always completes, of any length, and keeps what it must not touch (R15, R173, R179, R184): a pinned recipe row; every
table but the recipes while its station is of class OPERATE; outside IDLE and SERVICE the line, channel and output tables and
column K5 of every loop row (R187). -/
def Obligations.WriteRunKeeps : Prop :=
  ∀ (r : Requester) (values : List (BitVec 16)) (s : State), ∃ t : State, exec (.writeRun r values) s = .next t ∧
    t.trk.pins = s.trk.pins ∧ t.trk.position = s.trk.position ∧ t.time = s.time ∧ t.net.address = s.net.address ∧
    (∀ row : Row, 0 < s.trk.pins.getD row.val 0 → ∀ n, t.P row n = s.P row n) ∧
    (s.line.state ≠ .idle → s.line.state ≠ .service → s.events = [] → s.net.upLink = true →
      t.tab.line = s.tab.line ∧ t.tab.channel = s.tab.channel ∧ t.tab.output = s.tab.output ∧ ∀ i, t.K i 5 = s.K i 5) ∧
    (∀ e, s.requestingEntry r.src.toNat = some e → (s.tab.station.getD e {}).cls = .operate →
      t.tab = { s.tab with recipe := t.tab.recipe, written := t.tab.written })

/-- ANNOUNCE BOARD (R9): the checks in their order, each refusal raising ANNOUNCE_REJECTED with the station's entry as source; else
the entry joins at the tail with its arrival time and the row's pin count rises by one. That ANNOUNCE_REJECTED is raised without a
value is the model's choice (log entry 11). -/
def Obligations.AnnounceBoard : Prop :=
  ∀ (r : Requester) (e : Nat) (s : State) (row : Byte) (id : List Byte), Accepts r e s →
    exec (.announceBoard r row id) s = .next (settle (
      if row.toNat ≤ 31 ∧ id.length ≤ 16 ∧ s.rowDefined (Fin.ofNat 32 row.toNat) = true then
        if s.trk.announces.length < 8 then
          answered r [0] (settle { taken s with
            trk.announces := s.trk.announces ++ [{ row := Fin.ofNat 32 row.toNat, id := id, arrival := s.time }]
            trk.pins := s.trk.pins.set row.toNat (s.trk.pins.getD row.toNat 0 + 1)
            events := [.announceChange] })
        else answered r [12] (settle { taken s with events := [.raise .announceRejected e none] })
      else answered r [11] (settle { taken s with events := [.raise .announceRejected e none] })))

/-- WITHDRAW ANNOUNCES (R10): every entry goes and lowers its row's pin count by one; in every line state and from either class it
answers DONE, an empty queue included; board records are not touched. -/
def Obligations.WithdrawAnnounces : Prop :=
  ∀ (r : Requester) (e : Nat) (s : State), Accepts r e s →
    exec (.withdrawAnnounces r) s = .next (settle (answered r [0] (
      if s.trk.announces = [] then taken s
      else settle { taken s with
        trk.announces := []
        trk.pins := s.trk.announces.foldl (fun p a => p.set a.row.val (p.getD a.row.val 0 - 1)) s.trk.pins
        events := [.announceChange] })))

/-- One record leaves by PURGE TRACK (R23): flagged PURGED in its BOARD_EXIT notice, its row's pin count one lower. -/
def boardPurged (s : State) (r : BoardRecord) : State :=
  State.offerUpNormal
    { s with
      trk.track := s.trk.track.tail
      trk.pins := match r.recipe with
        | none => s.trk.pins
        | some row => s.trk.pins.set row.val (s.trk.pins.getD row.val 0 - 1) }
    { dest := 63, kind := 5, payload := 3 :: boardImage { r with flags.purged := true } }

/-- PURGE TRACK (R23): in STOPPED, IDLE and SERVICE every record goes, oldest first, each with its notice, its present conditions
clear and it is counted, and the rest of the tracker stands; in WARMUP, READY and DRAIN it is refused. The order of the clears,
and that the notices go before theirs, are the model's choices (log entries 50, 52). -/
def Obligations.PurgeTrack : Prop :=
  ∀ (r : Requester) (e : Nat) (s : State), Accepts r e s →
    (s.line.state = .stopped ∨ s.line.state = .idle ∨ s.line.state = .service → ∃ t : State,
      exec (.purgeTrack r) s = .next t ∧ t.trk.track = [] ∧
        t.trk.purged = s.trk.purged + BitVec.ofNat 16 s.trk.track.length ∧
        t.trk.condEye = none ∧ t.trk.condSpeed = none ∧ t.trk.condStall = false ∧ t.trk.stallTimer = 0 ∧
        t.trk.announces = s.trk.announces ∧ t.trk.position = s.trk.position ∧ t.trk.residue = s.trk.residue ∧
        t.trk.nextTag = s.trk.nextTag ∧ t.trk.eyeBlocked = s.trk.eyeBlocked ∧ t.trk.candidate = s.trk.candidate ∧
        t.trk.entered = s.trk.entered ∧ t.trk.exited = s.trk.exited ∧ t.trk.lastEntered = s.trk.lastEntered ∧
        t.tab = s.tab ∧ t.time = s.time) ∧
    (s.line.state = .stopped ∨ s.line.state = .idle ∨ s.line.state = .service →
      let u := s.trk.track.foldl boardPurged (taken s)
      let v := stallOver { u with
        trk.purged := s.trk.purged + BitVec.ofNat 16 s.trk.track.length, trk.condEye := none, trk.condSpeed := none
        events := u.events ++
          (match s.trk.condEye with
            | none => []
            | some tag => [.clear .eyeBlocked tag.toNat]) ++
          (match s.trk.condSpeed with
            | none => []
            | some tag => [.clear .speedOut tag.toNat]) }
      exec (.purgeTrack r) s = .next (settle (answered r [0] (settle { v with
        events := v.events ++ if s.trk.track = [] then [] else [.recordChange false] })))) ∧
    (s.line.state = .warmup ∨ s.line.state = .ready ∨ s.line.state = .drain →
      exec (.purgeTrack r) s = .next (settle (answered r [9] (taken s))))

/-- ACKNOWLEDGE of a pair and ACKNOWLEDGE ALL (R122): a kind of 0 or above 26 is refused and a pair without a record not found; the
records are acknowledged by R112, oldest first and each with its events (log entry 18), then LIST_FULL. The two are the forms 0 and 1
of one directive; a REQUEST telegram with another form is REFUSED(RANGE) and changes nothing (the directive
index of 11_requests_tables_and_the_loader.md). -/
def Obligations.Acknowledge : Prop :=
  ∀ (r : Requester) (e : Nat) (s : State), Accepts r e s →
    (∀ (kind : Byte) (source : BitVec 16), exec (.acknowledge r kind source) s = .next (settle (
      match alarmKindOf kind.toNat with
      | none => answered r [11] (taken s)
      | some k =>
        if s.alarmFor k source.toNat = none then answered r [2] (taken s)
        else answered r [0] (settle (alarmAcknowledge k source.toNat (taken s)))))) ∧
    (exec (.acknowledgeAll r) s = .next (settle (
      if s.alm.records = [] ∧ s.alm.listFull = none then answered r [2] (taken s)
      else answered r [0] (settle (acknowledgeListFull
        (s.alm.records.foldl (fun t a => settle (alarmAcknowledge a.kind a.source t)) (taken s))))))) ∧
    (∀ form kind high low : Byte, 1 < form.toNat → s.net.address ≤ 62 →
      exec (.telegramReceived .up (frame r.src.toNat s.net.address 3 [r.seq, 11, form, kind, high, low])) s =
        .next (settle (answered r [11] (taken s))))

/-- SET STATE IDLE, DRAIN, RESUME and SERVICE by the table of R126, SERVICE with its class check first; each result carries a check
number of 0 (R172). A REQUEST telegram with another operand than the five is REFUSED(RANGE) and changes nothing (R126). -/
def Obligations.SetStateMoves : Prop :=
  ∀ (r : Requester) (e : Nat) (s : State), Accepts r e s →
    (exec (.setStateIdle r) s = .next (settle (
      if s.line.state = .idle then answered r [0, 0] (taken s)
      else if s.line.state = .warmup ∨ s.line.state = .service ∨
          (s.line.state = .ready ∨ s.line.state = .drain) ∧ s.trk.track = [] ∨
          s.line.state = .stopped ∧ s.trk.track = [] ∧ s.line.holding ≠ some .stop then
        answered r [0, 0] (settle (changeLine .idle .directive (taken s)))
      else answered r [9, 0] (taken s)))) ∧
    (exec (.setStateDrain r) s = .next (settle (
      if s.line.state = .drain then answered r [0, 0] (taken s)
      else if s.line.state = .ready then answered r [0, 0] (settle (changeLine .drain .directive (taken s)))
      else answered r [9, 0] (taken s)))) ∧
    (exec (.setStateResume r) s = .next (settle (
      if s.line.state = .drain ∧ s.line.holding ≠ some .drain ∧ s.line.holding ≠ some .stop then
        answered r [0, 0] (settle (enterLine .warmup .directive (taken s)))
      else answered r [9, 0] (taken s)))) ∧
    (exec (.setStateService r) s = .next (settle (
      if (s.tab.station.getD e {}).cls = .operate then answered r [8, 0] (taken s)
      else if s.line.state = .service then answered r [0, 0] (taken s)
      else if s.line.state = .idle ∧ s.line.holding ≠ some .stop then
        answered r [0, 0] (settle (changeLine .service .directive (taken s)))
      else answered r [9, 0] (taken s)))) ∧
    (∀ operand : Byte, 4 < operand.toNat → s.net.address ≤ 62 →
      exec (.telegramReceived .up (frame r.src.toNat s.net.address 3 [r.seq, 12, operand])) s =
        .next (settle (answered r [11, 0] (taken s))))

/-- The eight checks of R127, in their order. -/
def warmupChecks (s : State) : List Bool :=
  [decide (1 ≤ s.L 0),
   decide (s.L 2 < s.L 4 ∧ s.L 4 < s.L 8 ∧ s.L 5 < s.L 9 ∧ s.L 6 < s.L 10 ∧ s.L 7 < s.L 11 ∧ s.L 4 ≤ s.L 5 ∧ s.L 5 ≤ s.L 6 ∧
     s.L 6 ≤ s.L 7 ∧ s.L 8 ≤ s.L 9 ∧ s.L 9 ≤ s.L 10 ∧ s.L 10 ≤ s.L 11 ∧ s.L 11 ≤ s.L 12 ∧ s.L 12 < s.L 13),
   decide (s.L 29 < s.L 27 ∧ s.L 27 < s.L 28 ∧ s.L 28 < s.L 30),
   (List.range 5).all (fun i => s.K i 5 != 1 || s.quantityBound (loopQuantity i)) && s.quantityBound .potLevel &&
     s.quantityBound .exhaustFlow && s.quantityBound .fluxPressure && s.quantityBound .filterDp,
   (List.range 5).all (fun i => s.K i 5 != 1 || (s.outputRow (loopFn i)).bound) && (s.outputRow .wavePump).bound &&
     (s.outputRow .feeder).bound && (s.outputRow .exhaustFan).bound,
   (List.range 5).all (fun i => s.K i 5 != 1 || (decide (0 < s.K i 2) && decide (0 < s.K i 6))),
   s.net.downLink,
   decide (s.line.holding ≠ some .drain ∧ s.line.holding ≠ some .stop)]

/-- SET STATE WARMUP (R126, R127): in IDLE the number of the first failing check answers, TABLE for 1 to 6 and STATE for 7 and 8;
when all pass the line becomes WARMUP. -/
def Obligations.SetStateWarmup : Prop :=
  ∀ (r : Requester) (e : Nat) (s : State), Accepts r e s →
    exec (.setStateWarmup r) s = .next (settle (
      if s.line.state = .warmup then answered r [0, 0] (taken s)
      else if s.line.state ≠ .idle then answered r [9, 0] (taken s)
      else match (warmupChecks s).findIdx? fun ok => !ok with
        | none => answered r [0, 0] (settle (enterLine .warmup .directive (taken s)))
        | some n => answered r [if n < 6 then 13 else 9, BitVec.ofNat 8 (n + 1)] (taken s)))

/-- MANUAL OUTPUT (R136). For a heater (R59): the class, then the five checks in their order; 0 ends the manual duty, another
value is clamped to K2, and the duty is entered or sent. For the pump, the feeder and the fan, and for no function (R92, R98): the
class, then SERVICE, the value and the mark; 0 makes the manual value none, and the command that reads it is derived again. -/
def Obligations.ManualOutput : Prop :=
  (∀ (r : Requester) (e : Nat) (s : State) (i : Nat) (v : BitVec 16), Accepts r e s → i < 5 →
    exec (.manualOutput r (BitVec.ofNat 8 i) v) s = .next (settle (
      if (s.tab.station.getD e {}).cls = .operate then answered r [8] (taken s)
      else if s.line.state ≠ .service then answered r [9] (taken s)
      else if 1000 < v.toNat then answered r [11] (taken s)
      else if s.K i 5 ≠ 1 ∨ (s.loopCtx i).state = .fault ∨ s.marked (loopFn i) = true then answered r [9] (taken s)
      else if v.toNat = 0 then answered r [0] (settle (deriveLoop i (setManual i none (taken s))))
      else
        let m := min v.toNat (s.K i 2)
        answered r [if m < v.toNat then 1 else 0] (settle (
          if (s.loopCtx i).state = .manual then sendDuty i m (setManual i (some m) (taken s))
          else deriveLoop i (setManual i (some m) (taken s))))))) ∧
  (∀ (r : Requester) (e : Nat) (s : State) (f : Byte) (v : BitVec 16), Accepts r e s → 5 ≤ f.toNat →
    exec (.manualOutput r f v) s = .next (settle (
      if (s.tab.station.getD e {}).cls = .operate then answered r [8] (taken s)
      else if 7 < f.toNat then answered r [11] (taken s)
      else if s.line.state ≠ .service then answered r [9] (taken s)
      else if 1000 < v.toNat then answered r [11] (taken s)
      else if s.filt.marks.getD f.toNat false = true then answered r [9] (taken s)
      else
        let m : Option Nat := if v.toNat = 0 then none else some v.toNat
        answered r [0] (settle (
          if f = 5 then
            let u := derivePump { taken s with pot.manualPump := m }
            if m.isSome = s.pot.manualPump.isSome then u else u.post (.pumpReport m.isSome)
          else if f = 6 then deriveFeederCmd { taken s with pot.manualFeeder := m }
          else deriveDemand { taken s with exh.manualFan := m })))))

/-- LINE RESTART (R28, R137): from a SERVICE station in IDLE or STOPPED the line is IDLE, the queues and counters are empty and the
configuration, position, tags, clock and address stand; in the other states, and from an OPERATE station, it is refused and
changes nothing. The other blocks are left as their rules say: the flux controller (R42), the loops (R61), the pot controller (R94),
the exhaust monitor (R105), with the fresh run-on of a restart in STOPPED (R97), the alarm unit (R124), with a free place for the
reply and the LINE_STATE notice, and the filter (R169). -/
def Obligations.LineRestart : Prop :=
  ∀ (r : Requester) (e : Nat) (s : State), Accepts r e s →
    ((s.tab.station.getD e {}).cls = .operate →
      exec (.lineRestart r) s = .next (settle (answered r [8] (taken s)))) ∧
    ((s.tab.station.getD e {}).cls = .service → s.line.state ≠ .idle → s.line.state ≠ .stopped →
      exec (.lineRestart r) s = .next (settle (answered r [9] (taken s)))) ∧
    ((s.tab.station.getD e {}).cls = .service → s.line.state = .idle ∨ s.line.state = .stopped → ∃ t : State,
      exec (.lineRestart r) s = .next t ∧ t.line.state = .idle ∧ t.pins.permit = false ∧
        t.trk.track = [] ∧ t.trk.announces = [] ∧ t.trk.entered = 0 ∧ t.trk.exited = 0 ∧ t.trk.purged = 0 ∧
        t.trk.pins = List.replicate 32 0 ∧ t.trk.lastEntered = none ∧ t.trk.stallTimer = 0 ∧ t.trk.revDist = 0 ∧
        t.trk.revResidue = 0 ∧ t.trk.condReverse = false ∧ t.trk.condStall = false ∧ t.trk.condEye = none ∧
        t.trk.condSpeed = none ∧
        t.trk.position = s.trk.position ∧ t.trk.residue = s.trk.residue ∧ t.trk.speed = s.trk.speed ∧
        t.trk.advances = s.trk.advances ∧ t.trk.measTimer = s.trk.measTimer ∧ t.trk.eyeBlocked = s.trk.eyeBlocked ∧
        t.trk.candidate = s.trk.candidate ∧ t.trk.nextTag = s.trk.nextTag ∧
        t.tab = s.tab ∧ t.ldr = s.ldr ∧ t.net.address = s.net.address ∧ t.line.clock = s.line.clock ∧
        t.line.clockRunning = s.line.clockRunning ∧ t.line.second = s.line.second ∧ t.time = s.time ∧
        t.line.settle = 0 ∧ t.line.changeover = false ∧ t.line.holdRecipe = none ∧ t.line.admitted = none ∧
        t.pins.spray = false ∧ (s.line.state = .stopped → t.pins.hold = false) ∧
        t.flux = fluxAtRest (s.trk.speed * s.L 3 / 1000) ∧
        (HeatInv s → ∀ i, i < 5 → t.loopCtx i = loopAtRest (if i = 4 then s.L 23 else 0)) ∧
        t.heat.potMolten = false ∧
        t.pot = potAtRest s.pot.refresh ∧
        (let runOn := if s.line.state = .stopped ∧ 0 < s.L 38 then some 0 else none
         let demand := runOn.isSome || s.exh.valveOpen
         t.exh = exhaustAtRest demand runOn s.exh.valveOpen s.exh.refresh) ∧
        (s.net.upNormal.length < 15 →
          t.alm.records = [] ∧ t.alm.listFull = none ∧ t.alm.holding = none ∧ t.line.holding = none ∧ t.pins.trip = false) ∧
        t.filt = { s.filt with entries := List.replicate 32 ⟨0, false, false⟩, nodeFaults := List.replicate 8 false })

/-- SET ADDRESS as the one directive of its request (R154): the class, the address-open flag, the range; the new address counts at
once and the flag is cleared in every case. Where it is not the first directive it is refused, for the class or else with
REFUSED(STATE), and changes nothing: in every state, and so in a REQUEST telegram that asks for IDENTIFY before it. -/
def Obligations.SetAddress : Prop :=
  (∀ (r : Requester) (e : Nat) (s : State) (a : Byte), Accepts r e s →
    exec (.setAddress r a) s = .next (settle (
      if (s.tab.station.getD e {}).cls = .operate then answered r [8] (taken s)
      else if s.net.addressOpen = false then answered r [9] (taken s)
      else if 62 < a.toNat then answered r [11] (taken s)
      else answered r [0] { taken s with net.address := a.toNat })) ∧
    (s.net.address ≤ 62 →
      exec (.telegramReceived .up (frame r.src.toNat s.net.address 3 [r.seq, 129, 18, a])) s = .next (settle (
        answered r ([0, 14, 84, 1, 16, 8, 32, 5, 32, 8, 24, 4] ++ if (s.tab.station.getD e {}).cls = .operate then [8] else [9])
          (taken s))))) ∧
  (∀ (e src : Nat) (a : Byte) (u : State),
    let row := u.tab.station.getD e {}
    directive e src false (.setAddress a) u =
      { result := if row.address = some src ∧ row.cls = .service then .refused .state else .refused .access, data := [], state := u })

/-- The bytes of a directive's operands, from the directive index (R171); ANNOUNCE BOARD's include the id its second operand counts. -/
def operandCount (code : Nat) (bs : List Byte) : Nat :=
  if code = 7 then 2 + (bs.getD 1 0).toNat
  else ([0, 0, 2, 6, 0, 1, 1, 0, 0, 0, 7, 4, 1, 3, 0, 5, 0, 0, 1] : List Nat).getD code 0

/-- The bytes of a directive's largest result, the result byte included (R146, R172). -/
def largestOf : Directive → Nat
  | .identify => 12
  | .readStatus .. => 51
  | .readRun .. => 57
  | .readTrack .. => 59
  | .readAlarms .. => 42
  | .writeRun .. => 2
  | .setState .. => 2
  | _ => 1

/-- The byte 0 that a refusal of WRITE RUN or SET STATE carries (R172). -/
def zeroOf : Directive → List Byte
  | .writeRun .. => [0]
  | .setState .. => [0]
  | _ => []

/-- The result of an item in a request of an unlisted source (R170): REFUSED(ACCESS). -/
def unlistedResult : Item → List Byte
  | .dir d => 8 :: zeroOf d
  | .unknown => [8]
  | .truncated code => if code = 12 then [8, 0] else [8]

/-- A parsed list from a listed station (R146, R172), after the results already given: a directive for whose largest result and one
byte for each later one there is no room is REFUSED(FULL); else it is executed with its events; after UNKNOWN or a refusal the rest
is SKIPPED. -/
def listRun (entry src : Nat) : List Item → Bool → List (List Byte) → State → List (List Byte) × State
  | [], _, given, s => (given, s)
  | item :: rest, first, given, s =>
    let skipped : List (List Byte) := rest.map fun _ => [3]
    match item with
    | .unknown => (given ++ [4] :: skipped, s)
    | .truncated code => (given ++ (if code = 12 then [11, 0] else [11]) :: skipped, s)
    | .dir d =>
      if 60 < 1 + given.flatten.length + largestOf d + rest.length then (given ++ (12 :: zeroOf d) :: skipped, s)
      else
        let a := directive entry src first d s
        let result := resultByte a.result :: a.data
        match a.result with
        | .refused _ => (given ++ result :: skipped, settle a.state)
        | .done | .clamped | .notFound | .skipped | .unknown => listRun entry src rest false (given ++ [result]) (settle a.state)

/-- A taken REQUEST (R146, R152, R154, R170): the next place of the UP normal queue is reserved, the list after the sequence number
is run for the entry that holds the source, or refused throughout for an unlisted one, the address-open flag is cleared, and the
reply fills its place; an empty payload is answered by the sequence number 0 alone. -/
def requestTaken (src : Nat) (payload : List Byte) (s : State) : State :=
  let items := parseItems payload.tail.length payload.tail
  let u := { s with net.reserved := some s.net.upNormal.length }
  let x := match s.tab.station.findIdx? fun r => decide (r.address = some src) with
    | none => (items.map unlistedResult, u)
    | some entry => listRun entry src items true [] u
  fillReply src (replyPayload (payload.headD 0) x.1) { x.2 with net.addressOpen := false }

/-- A directive command is the telegram that carries it (R144, R146, R149, R171): a good REQUEST to the station address with that
one directive, received on UP, does exactly what the command does. That a directive row stands for a request with one directive
is the model's reading (log entry 6). Any good REQUEST that finds a place is taken whole (requestTaken: R149, R152, R154, R170,
R172): several directives, an empty payload, an unlisted source. The parsing (R171): an unknown code and a truncated directive end
the list, and a directive's own bytes, read alone, are that directive. The reply is the sequence number and the results, within 60
bytes; of results that outgrow them, those that fit whole come first, and what follows is free (log entry 9). The model's choices in
listRun and unlistedResult: an unknown or truncated item after a refusal is SKIPPED, and a truncated SET STATE carries its byte 0 (log
entry 32). That a link change the telegram brings is taken before the request is the model's too (log entry 57). -/
def Obligations.RequestTelegramIsItsCommand : Prop :=
  (∀ (c : Instr) (r : Requester) (bytes : List Byte) (s : State), c.wellFormed = true →
    requestOf c = some (r, bytes) → s.net.address ≤ 62 →
    exec (.telegramReceived .up (frame r.src.toNat s.net.address 3 (r.seq :: bytes))) s = exec c s) ∧
  (∀ (run : List Byte) (t : Received) (s : State), checkRun run = some t →
    let u := settle (linkHeard .up s)
    t.source ≠ u.net.address → t.dest = u.net.address → t.kind = 3 → u.upNormalOccupancy < 16 →
    exec (.telegramReceived .up run) s = .next (settle (requestTaken t.source t.payload u))) ∧
  (∀ (n : Nat) (c : Byte) (bs : List Byte),
    let code := c.toNat % 128
    let k := operandCount code bs
    parseItems n [] = [] ∧
    (code = 0 ∨ 18 < code → parseItems (n + 1) (c :: bs) = [.unknown]) ∧
    (1 ≤ code → code ≤ 18 → bs.length < k → parseItems (n + 1) (c :: bs) = [.truncated code]) ∧
    (1 ≤ code → code ≤ 18 → code ≠ 4 → k ≤ bs.length → ∃ d,
      parseItems 1 (BitVec.ofNat 8 code :: bs.take k) = [.dir d] ∧
      parseItems (n + 1) (c :: bs) = .dir d :: (if 128 ≤ c.toNat then parseItems n (bs.drop k) else [])) ∧
    (code = 4 → parseItems (n + 1) (c :: bs) =
      if 128 ≤ c.toNat then .dir (.writeRun true []) :: parseItems n bs else [.dir (.writeRun false bs)])) ∧
  (∀ (seq : Byte) (results : List (List Byte)),
    (replyPayload seq results).length ≤ 60 ∧ ∃ (n : Nat) (free : List Byte),
      replyPayload seq results = seq :: ((results.take n).flatten ++ free) ∧
      (n = results.length → free = []) ∧
      (n ≠ results.length → 59 < (results.take (n + 1)).flatten.length) ∧
      (results.flatten.length ≤ 59 → n = results.length))

/-! Internal events. -/

/-- What no internal event changes: the time base; the tracker but for what blocks report into its records and for the stall
timer, which an asserted HOLD sets to 0 (R20); the line clock, the links, the station address, the filter's entries, the loader, the
tables and the waiting commands. -/
def Obligations.EventsLeaveStill : Prop :=
  ∀ (n : Nat) (s : State), still (drain n s) = still s

/-- Only the reset, a SET STATE or LINE RESTART, or a telegram on UP, which may carry them, takes the line out of IDLE or STOPPED:
no alarm, timer, sample or write does, and no millisecond of an empty queue (R126, R129, R137; a step on an empty queue is one
millisecond, log entry 1). -/
def Obligations.OnlyDirectivesEndIdleAndStopped : Prop :=
  (∀ (c : Instr) (s : State), movesLine c = false → s.line.state = .idle ∨ s.line.state = .stopped →
    ∃ t : State, exec c s = .next t ∧ t.line.state = s.line.state) ∧
  (∀ s : State, s.pending = [] → s.line.state = .idle ∨ s.line.state = .stopped →
    ∃ t : State, step s = .next t ∧ t.line.state = s.line.state)

/-! Flux and alarms. -/

/-- The window table before the phases move (R29, R37): one entry per record that has one or is PENDING, in the track's order. That
it is matched with the track here is the model's choice (log entry 29). -/
def windowsJoined (s : State) : List Window :=
  s.trk.track.filterMap fun r =>
    match s.flux.windows.find? fun w => w.tag == r.tag with
    | some w => some w
    | none => if r.flux = .pending then some { tag := r.tag } else none

/-- An entry after its phase has moved (R30, R31). -/
def phaseMoved (s : State) (w : Window) : Window :=
  match s.trk.track.find? fun r => r.tag == w.tag with
  | none => w
  | some r =>
    match r.recipe with
    | none => w
    | some row =>
      let opens := s.L 2 - s.P row 3 - s.flux.lv ≤ (s.trk.position - r.lead).toNat
      let passes := beyond s.trk.position r (s.L 2 + s.P row 4 - s.flux.lv) = true
      { w with phase := match w.phase with
        | .before => if opens then (if passes then .passed else .opened) else .before
        | .opened => if passes then .passed else .opened
        | .passed => .passed }

/-- The record a bridge may be decided to (R35): the one that follows, in the track, the youngest record whose entry moved to
PASSED, if it is PENDING in BEFORE, bridges, and its remaining distance is within its bridge gap. -/
def bridgeChosen (s : State) (joined moved : List Window) : Option Tag :=
  match ((joined.zip moved).filter fun p => p.1.phase != .passed && p.2.phase == .passed).getLast? with
  | none => none
  | some p =>
    match (s.trk.track.dropWhile fun r => r.tag != p.2.tag)[1]? with
    | none => none
    | some r =>
      match moved.find? (fun w => w.tag == r.tag), r.recipe with
      | some w, some row =>
        if r.flux = .pending ∧ w.phase = .before ∧ 0 < s.P row 5 ∧
            s.L 2 - s.P row 3 - s.flux.lv ≤ (s.trk.position - r.lead).toNat + s.P row 5 then some r.tag else none
      | _, _ => none

/-- The tables of R34 (the valve) and R36 (flux state and uncovered mark), row by row; that an evaluation takes each record's new
flux state, and each window's uncovered mark, from its own window's phase and the valve just decided; the spray's eligibility (R33);
an evaluation after a speed measurement, Lv recomputed first (R30, R32); and the whole evaluation (R29, R31, R34 to R36): the
phases move, a bridge in force stands while its target is BEFORE and the spray eligible and only without one is a bridge decided
(the model's choice, log entry 15), the valve and SPRAY follow, and a change of the valve is reported. -/
def Obligations.FluxTables : Prop :=
  (∀ s : State, handle .speedMeasured s = fluxEvaluate { s with flux.lv := s.trk.speed * s.L 3 / 1000 }) ∧
  (∀ s : State, s.sprayEligible = true ↔ (s.line.state = .ready ∨ s.line.state = .drain) ∧
    (s.flux.status = .normal ∨ (s.flux.status = .low ∧ s.flux.mask = true))) ∧
  (∀ claiming bridge : Bool,
    nextValve false true true bridge = true ∧ nextValve false true false bridge = false ∧
    nextValve false false claiming bridge = false ∧ nextValve true true true bridge = true ∧
    nextValve true true false true = true ∧ nextValve true true false false = false ∧
    nextValve true false claiming bridge = false) ∧
  (∀ v u : Bool,
    nextFlux .pending .before v u = (.pending, u) ∧ nextFlux .pending .opened true u = (.spraying, u) ∧
    nextFlux .pending .opened false u = (.pending, true) ∧ nextFlux .pending .passed v u = (.missed, u) ∧
    nextFlux .spraying .opened true u = (.spraying, u) ∧ nextFlux .spraying .opened false u = (.partially, true) ∧
    nextFlux .spraying .passed v false = (.done, false) ∧ nextFlux .spraying .passed v true = (.partially, true) ∧
    (∀ ph, nextFlux .partially ph v u = (.partially, u)) ∧
    nextFlux .done .passed v u = (.done, u) ∧ nextFlux .missed .passed v u = (.missed, u)) ∧
  (∀ s : State,
    let t := fluxEvaluate s
    t.pins.spray = t.flux.valveOpen ∧ (s.flux.eligible = false → t.flux.valveOpen = false) ∧
      t.trk.track = (s.trk.track.map fun r => match windowOf t.flux.windows r.tag with
        | none => r
        | some w => { r with flux := (nextFlux r.flux w.phase t.flux.valveOpen w.uncovered).1 }) ∧
      t.flux.windows = ((windowsJoined s).map (phaseMoved s)).map fun w =>
        let st := ((s.trk.track.find? fun r => r.tag == w.tag).map fun r => r.flux).getD .none
        { w with uncovered := (nextFlux st w.phase t.flux.valveOpen w.uncovered).2 }) ∧
  (∀ s : State,
    let t := fluxEvaluate s
    let joined := windowsJoined s
    let moved := joined.map (phaseMoved s)
    let claiming := moved.any fun w => w.phase == .opened && (match s.trk.track.find? fun r => r.tag == w.tag with
      | none => false
      | some r => r.flux == .pending || r.flux == .spraying)
    let stands : Bool := match s.flux.bridge with
      | none => false
      | some b => s.flux.eligible && (match moved.find? fun w => w.tag == b with
        | none => false
        | some w => w.phase == .before)
    t.flux.bridge = (if stands = true then s.flux.bridge
      else if s.flux.valveOpen = true ∧ s.flux.eligible = true ∧ claiming = false then bridgeChosen s joined moved
      else none) ∧
    t.flux.valveOpen = nextValve s.flux.valveOpen s.flux.eligible claiming t.flux.bridge.isSome ∧
    t.events = (if t.flux.valveOpen = s.flux.valveOpen then s.events
      else s.events ++ [.valveReport t.flux.valveOpen]) ∧
    t = { s with
      flux := { s.flux with windows := t.flux.windows, bridge := t.flux.bridge, valveOpen := t.flux.valveOpen }
      pins.spray := t.pins.spray, trk.track := t.trk.track, events := t.events })

/-- An alarm notice of a record as it stands (R117): nothing for a masked record; DRAIN and STOP to the UP urgent queue, the others
to the normal queue. Code 1 is ALARM_RAISED, 2 ALARM_CLEARED (R147). -/
def noticeOffered (code : Byte) (r : AlarmRecord) (s : State) : State :=
  let n : Telegram := { dest := 63, kind := 5, payload := code :: alarmShortImage r }
  if r.masked = true then s
  else if r.severity = .drain ∨ r.severity = .stop then s.offerUpUrgent n
  else s.offerUpNormal n

/-- What a raise does to the record of its pair (R109, R110). -/
def raisedAgain (s : State) (v : Option Int) (r : AlarmRecord) : AlarmRecord :=
  { r with
    severity := (s.policyOf r.kind).severity, masked := (s.policyOf r.kind).masked
    state := if momentary r.kind then r.state else .active
    count := min 255 (r.count + 1), last := s.line.clock, value := v }

/-- The end of a raise, a clear or an acknowledgement (R115, R116, R118): the holding severity, the highest of the unmasked records,
and whether one of severity WARN holds are published when either has changed, and TRIP follows a holding STOP. -/
def heldAfter (s : State) : State :=
  let holders := (s.alm.records ++ s.alm.listFull.toList).filter fun r => !r.masked
  let h := ([.stop, .drain, .warn, .note] : List Severity).find? fun sv => holders.any fun r => r.severity == sv
  let w := holders.any fun r => r.severity == .warn
  { s with
    alm.holding := h, alm.warn := w, pins.trip := decide (h = some .stop)
    events := if h = s.alm.holding ∧ w = s.alm.warn then s.events else s.events ++ [.published h w] }

/-- The removal of a record, told to its owner (R113). -/
def ownerTold (r : AlarmRecord) (s : State) : State :=
  { s with events := s.events ++ match r.kind with
    | .overtemp => [.overtempRemoved (r.source - 1)]
    | .levelCritical => [.levelCriticalRecord false]
    | .feedJam => [.feedJamRemoved]
    | _ => [] }

/-- The creation of a LEVEL_CRITICAL record, told to the pot controller (R113). -/
def creationTold (k : AlarmKind) (s : State) : State :=
  { s with events := s.events ++ if k = .levelCritical then [.levelCriticalRecord true] else [] }

/-- A record taken out of the list (R109), which ends the LIST_FULL condition at 20 records or fewer (R121): ACTIVE becomes CLEARED
with its notice, ACKED is removed. -/
def recordGone (r : AlarmRecord) (s : State) : State :=
  let u := { s with alm.records := s.alm.records.filter fun x => decide ((x.kind, x.source) ≠ (r.kind, r.source)) }
  if 20 < u.alm.records.length then u
  else match s.alm.listFull with
    | none => u
    | some f => match f.state with
      | .active => noticeOffered 2 { f with state := .cleared } { u with alm.listFull := some { f with state := .cleared } }
      | .acked => { u with alm.listFull := none }
      | .cleared => u

/-- A record put in the place of the one of its pair. -/
def recordPut (r : AlarmRecord) (s : State) : State :=
  { s with alm.records := s.alm.records.map fun x => if (x.kind, x.source) = (r.kind, r.source) then r else x }

/-- ALARM_RAISED of an updated record (R117): for a move into ACTIVE, an end of the mask, a rise in severity. -/
def raiseNoticed (old new : AlarmRecord) (s : State) : State :=
  if (old.state ≠ .active ∧ new.state = .active) ∨ (old.masked = true ∧ new.masked = false) ∨
      severityNum old.severity < severityNum new.severity then noticeOffered 1 new s
  else s

/-- A raise, a clear and an acknowledgement of a pair that has a record (R109 to R112, R114): what becomes of the record, and the
whole of it (R115, R116, R118): the record, its notice, the evaluation, and then the report of a removal to the owner (R113). That
the holding severity can fall at a raise, and that a later raise of a CLEARED momentary record is announced after a policy write
that raised its severity or ended its mask, are DEDUCED (log entries 39, 56). A clear of OVERTEMP that finds no record is answered as a removal
(R113). What the owners do with the reports: the OVERTEMP latch goes and the loop's state is derived again (R49); the jam latch
goes, the failure count is 0 and the feeder IDLE or, under an off cause, OFF (R84); the pump command is derived again, 0 and forced
while there is a LEVEL_CRITICAL record (R87); a FEED_JAM dropped by a full list leaves the latch (R84). -/
def Obligations.AlarmLifecycle : Prop :=
  (∀ (s : State) (k : AlarmKind) (src : Nat) (v : Option Int) (r : AlarmRecord), AlarmInv s → k ≠ .listFull →
    s.alarmFor k src = some r →
    (handle (.raise k src v) s).alarmFor k src = some (raisedAgain s v r) ∧
    (handle (.clear k src) s).alarmFor k src =
      (match r.state with
       | .active => some { r with state := .cleared }
       | .acked => none
       | .cleared => some r) ∧
    (alarmAcknowledge k src s).alarmFor k src =
      (match r.state with
       | .active => if k = .feedJam then none else some { r with state := .acked }
       | .acked => some r
       | .cleared => none)) ∧
  (∀ (s : State) (k : AlarmKind) (src : Nat) (v : Option Int) (r : AlarmRecord), k ≠ .listFull → s.alarmFor k src = some r →
    let gone := ownerTold r (heldAfter (recordGone r s))
    let cleared := { r with state := .cleared }
    handle (.raise k src v) s = heldAfter (raiseNoticed r (raisedAgain s v r) (recordPut (raisedAgain s v r) s)) ∧
    handle (.clear k src) s =
      (match r.state with
       | .active => heldAfter (noticeOffered 2 cleared (recordPut cleared s))
       | .acked => gone
       | .cleared => s) ∧
    alarmAcknowledge k src s =
      (match r.state with
       | .active => if k = .feedJam then gone else heldAfter (recordPut { r with state := .acked } s)
       | .acked => s
       | .cleared => gone)) ∧
  (∀ (s : State) (k : AlarmKind) (src : Nat), k ≠ .listFull → s.alarmFor k src = none →
    alarmAcknowledge k src s = s ∧
    handle (.clear k src) s = (if k = .overtemp then { s with events := s.events ++ [.overtempRemoved (src - 1)] } else s)) ∧
  (∀ (s : State) (i : Nat), i < 5 → s.heat.loops.length = 5 →
    let c := s.loopCtx i
    let t := handle (.overtempRemoved i) s
    (c.causes.latch = false → t = s) ∧
    (c.causes.latch = true → t = deriveLoop i (s.setLoop i { c with causes := { c.causes with latch := false } }) ∧
      (t.loopCtx i).causes = { c.causes with latch := false } ∧ (t.loopCtx i).state = loopStateBy t i)) ∧
  (∀ s : State, handle .feedJamDropped s = s ∧ handle .feedJamRemoved s =
    (if s.pot.jam = false then s
    else { s with
      pot.jam := false, pot.failures := 0
      pot.feeder :=
        if s.line.state = .idle ∨ s.line.state = .stopped ∨ s.line.state = .service ∨ s.pot.sensor = .fault ∨
          s.pot.sensor = .silent then .off else .idle })) ∧
  (∀ (s : State) (made : Bool),
    let t := handle (.levelCriticalRecord made) s
    t = derivePump { s with pot.criticalRecord := made } ∧ (made = true → t.pot.pump = 0 ∧ t.pot.forced = true))

/-- The record a raise creates (R109, R110). -/
def newRaised (s : State) (k : AlarmKind) (src : Nat) (v : Option Int) : AlarmRecord :=
  { kind := k, source := src, severity := (s.policyOf k).severity, masked := (s.policyOf k).masked
    state := if momentary k then .cleared else .active, count := 1, first := s.line.clock, last := s.line.clock
    value := v, lineState := s.line.state }

/-- An evictable record (R120): masked, or CLEARED with severity NOTE or WARN. -/
def canGo (r : AlarmRecord) : Bool := r.masked || (r.state == .cleared && (r.severity == .note || r.severity == .warn))

/-- A dropped unmasked raise of a kind, taken up by LIST_FULL with its notice (R117, R121). -/
def listFullTaken (k : AlarmKind) (sev : Severity) (s : State) : State :=
  match s.alm.listFull with
  | none =>
    let f : AlarmRecord := { newRaised s .listFull 0 (some (alarmKindNum k)) with severity := sev, masked := false, state := .active }
    noticeOffered 1 f { s with alm.listFull := some f }
  | some g =>
    let f : AlarmRecord := { g with
      severity := if severityNum g.severity < severityNum sev then sev else g.severity, state := .active
      count := min 255 (g.count + 1), last := s.line.clock, value := some (alarmKindNum k) }
    raiseNoticed g f { s with alm.listFull := some f }

/-- A raise of a pair without a record (R109, R110, R120, R121): with room it creates the record at the tail; with 24 records the
oldest evictable one makes room; with none evictable the list stands, and an unmasked raise is taken up by LIST_FULL. The whole of
it (R115 to R118): the record, its notice, the evaluation, and the reports to the owners, of a created LEVEL_CRITICAL record, of an
evicted one and of a dropped FEED_JAM (R113). That a raise that evicts is evaluated once, after both changes, and that the report of
the creation goes before that of the eviction, are the model's choices (log entries 48, 59), and that the holding severity can fall
at it is DEDUCED (log entry 39). -/
def Obligations.AlarmNewRecord : Prop :=
  (∀ (s : State) (k : AlarmKind) (src : Nat) (v : Option Int), k ≠ .listFull → s.alarmFor k src = none →
    let new := newRaised s k src v
    let made : State → State := fun u =>
      creationTold k (heldAfter (noticeOffered 1 new { u with alm.records := u.alm.records ++ [new] }))
    handle (.raise k src v) s =
      (if s.alm.records.length < 24 then made s
      else match s.alm.records.find? canGo with
        | some victim => ownerTold victim (made (recordGone victim s))
        | none =>
          let u := if new.masked = true then s else heldAfter (listFullTaken k new.severity s)
          { u with events := u.events ++ if k = .feedJam then [.feedJamDropped] else [] })) ∧
  (∀ (s : State) (k : AlarmKind) (src : Nat) (v : Option Int), AlarmInv s → k ≠ .listFull → s.alarmFor k src = none →
    let t := handle (.raise k src v) s
    let new := newRaised s k src v
    (s.alm.records.length < 24 → t.alm.records = s.alm.records ++ [new]) ∧
    (s.alm.records.length = 24 → s.alm.records.any canGo = true →
      t.alm.records = s.alm.records.eraseIdx (s.alm.records.findIdx canGo) ++ [new]) ∧
    (s.alm.records.length = 24 → s.alm.records.any canGo = false →
      t.alm.records = s.alm.records ∧
      (new.masked = true → t.alm.listFull = s.alm.listFull) ∧
      (new.masked = false → ∃ f, t.alm.listFull = some f ∧ f.state = .active ∧ f.value = some (alarmKindNum k) ∧
        f.masked = false ∧
        (s.alm.listFull = none → f.count = 1 ∧ f.severity = new.severity) ∧
        (∀ g, s.alm.listFull = some g → f.count = min 255 (g.count + 1) ∧
          severityNum f.severity = max (severityNum g.severity) (severityNum new.severity)))))

/-- LIST_FULL's acknowledgement and its clear at 20 records (R112, R121), and the alarm notices (R117). An ACTIVE LIST_FULL becomes
ACKED and a CLEARED one is removed; the removal of a CLEARED record that leaves 20 or fewer clears an ACTIVE LIST_FULL with its
notice and removes an ACKED one. ALARM_RAISED is offered for a created record, and for an updated one that moves into ACTIVE, is
unmasked or rises in severity, a CLEARED momentary one included (DEDUCED, log entry 56); ALARM_CLEARED where a clear finds the record
ACTIVE; nothing else offers a notice there. -/
def Obligations.ListFullAndNotices : Prop :=
  (∀ (s : State) (f : AlarmRecord), s.alm.listFull = some f →
    let t := alarmAcknowledge .listFull 0 s
    t.alm.records = s.alm.records ∧ t.net = s.net ∧
      t.alm.listFull = (match f.state with
        | .active => some { f with state := .acked }
        | .acked => some f
        | .cleared => none) ∧
      (f.state = .cleared → t.alm.holding = t.alm.holdingNow ∧ t.pins.trip = decide (t.alm.holdingNow = some .stop))) ∧
  (∀ (s : State) (k : AlarmKind) (src : Nat) (r : AlarmRecord), AlarmInv s → k ≠ .listFull → s.alarmFor k src = some r →
    r.state = .cleared →
    let t := alarmAcknowledge k src s
    let left := s.alm.records.filter fun x => decide ((x.kind, x.source) ≠ (k, src))
    t.alm.records = left ∧ left.length + 1 = s.alm.records.length ∧
      (20 < left.length ∨ s.alm.listFull = none → t.alm.listFull = s.alm.listFull ∧ t.net = s.net) ∧
      (∀ f, left.length ≤ 20 → s.alm.listFull = some f →
        (f.state = .active → t.alm.listFull = some { f with state := .cleared } ∧
          t.net = (noticeOffered 2 { f with state := .cleared } s).net) ∧
        (f.state = .acked → t.alm.listFull = none ∧ t.net = s.net) ∧
        (f.state = .cleared → t.alm.listFull = some f ∧ t.net = s.net))) ∧
  (∀ (s : State) (k : AlarmKind) (src : Nat) (v : Option Int), k ≠ .listFull → s.alarmFor k src = none →
    s.alm.records.length < 24 →
    (handle (.raise k src v) s).net = (noticeOffered 1 (newRaised s k src v) s).net) ∧
  (∀ (s : State) (k : AlarmKind) (src : Nat) (v : Option Int) (r : AlarmRecord), k ≠ .listFull →
    s.alarmFor k src = some r →
    let new := raisedAgain s v r
    (handle (.raise k src v) s).net =
      (if (r.state ≠ .active ∧ new.state = .active) ∨ (r.masked = true ∧ new.masked = false) ∨
          severityNum r.severity < severityNum new.severity then (noticeOffered 1 new s).net
      else s.net) ∧
    (r.state = .active → (handle (.clear k src) s).net = (noticeOffered 2 { r with state := .cleared } s).net) ∧
    (r.state = .cleared → handle (.clear k src) s = s))

/-! Invariants every step keeps, the millisecond of an empty queue (log entry 1) included. -/

/-- Every step keeps the tracker's bookkeeping (R8, R11, R15, R26). -/
def Obligations.StepKeepsTracker : Prop :=
  ∀ s t : State, TrackerInv s → step s = .next t → TrackerInv t

/-- Every step keeps each heater loop in the state R45 derives, its duty within K2 and 0 at rest, its integrator bounded (R58). -/
def Obligations.StepKeepsHeat : Prop :=
  ∀ s t : State, HeatInv s → step s = .next t → HeatInv t

/-- Every step keeps the feeder's and the pump's interlocks (R79, R84, R87); of the pump's, the one by the pot-molten flag while no
report of a change of that flag waits. -/
def Obligations.StepKeepsPot : Prop :=
  ∀ s t : State, PotInv s → step s = .next t → PotInv t

/-- Every step keeps fan demand and command derived and the flow supervision within its limits (R96, R99, R101). -/
def Obligations.StepKeepsExhaust : Prop :=
  ∀ s t : State, ExhaustInv s → step s = .next t → ExhaustInv t

/-- Every step keeps SPRAY, HOLD, TRIP and the lamps as what drives them says, and PERMIT asserted only in READY with the
changeover hold clear; while no position advance and no record change waits among the internal events, PERMIT is asserted exactly
under the four conditions of R131, fewer than 16 records and the entry gap among them. While no publication waits, the line
controller holds the holding severity of the alarm unit, and the line is STOPPED or IDLE while an unmasked record of severity STOP
exists (R33, R34, R115, R116, R126, R129, R131, R134, R135). -/
def Obligations.StepKeepsLines : Prop :=
  ∀ s t : State, LinesInv s → step s = .next t → LinesInv t

/-- Every step keeps the queues within their capacities (R150 to R153). -/
def Obligations.StepKeepsQueues : Prop :=
  ∀ s t : State, QueueInv s → step s = .next t → QueueInv t

/-- Every step keeps the alarm list's form (R119). -/
def Obligations.StepKeepsAlarms : Prop :=
  ∀ s t : State, AlarmInv s → step s = .next t → AlarmInv t
end

