-- ==== Sys2Proof/Laws/State.lean ====
section
/-! SUPPORT. One lemma per field per named update of the state: what each small update leaves alone, and what it writes. -/
namespace Sys2Proof.Machine

/-! State.post. -/
@[simp] theorem State.post_time (s : State) (e : Event) : (s.post e).time = s.time := rfl
@[simp] theorem State.post_trk (s : State) (e : Event) : (s.post e).trk = s.trk := rfl
@[simp] theorem State.post_flux (s : State) (e : Event) : (s.post e).flux = s.flux := rfl
@[simp] theorem State.post_heat (s : State) (e : Event) : (s.post e).heat = s.heat := rfl
@[simp] theorem State.post_pot (s : State) (e : Event) : (s.post e).pot = s.pot := rfl
@[simp] theorem State.post_exh (s : State) (e : Event) : (s.post e).exh = s.exh := rfl
@[simp] theorem State.post_alm (s : State) (e : Event) : (s.post e).alm = s.alm := rfl
@[simp] theorem State.post_line (s : State) (e : Event) : (s.post e).line = s.line := rfl
@[simp] theorem State.post_net (s : State) (e : Event) : (s.post e).net = s.net := rfl
@[simp] theorem State.post_filt (s : State) (e : Event) : (s.post e).filt = s.filt := rfl
@[simp] theorem State.post_ldr (s : State) (e : Event) : (s.post e).ldr = s.ldr := rfl
@[simp] theorem State.post_tab (s : State) (e : Event) : (s.post e).tab = s.tab := rfl
@[simp] theorem State.post_pins (s : State) (e : Event) : (s.post e).pins = s.pins := rfl
@[simp] theorem State.post_events (s : State) (e : Event) : (s.post e).events = s.events ++ [e] := rfl
@[simp] theorem State.post_pending (s : State) (e : Event) : (s.post e).pending = s.pending := rfl

/-! State.raise. -/
@[simp] theorem State.raise_time (s : State) (k : AlarmKind) (n : Nat) (v : Option Int) : (s.raise k n v).time = s.time := rfl
@[simp] theorem State.raise_trk (s : State) (k : AlarmKind) (n : Nat) (v : Option Int) : (s.raise k n v).trk = s.trk := rfl
@[simp] theorem State.raise_flux (s : State) (k : AlarmKind) (n : Nat) (v : Option Int) : (s.raise k n v).flux = s.flux := rfl
@[simp] theorem State.raise_heat (s : State) (k : AlarmKind) (n : Nat) (v : Option Int) : (s.raise k n v).heat = s.heat := rfl
@[simp] theorem State.raise_pot (s : State) (k : AlarmKind) (n : Nat) (v : Option Int) : (s.raise k n v).pot = s.pot := rfl
@[simp] theorem State.raise_exh (s : State) (k : AlarmKind) (n : Nat) (v : Option Int) : (s.raise k n v).exh = s.exh := rfl
@[simp] theorem State.raise_alm (s : State) (k : AlarmKind) (n : Nat) (v : Option Int) : (s.raise k n v).alm = s.alm := rfl
@[simp] theorem State.raise_line (s : State) (k : AlarmKind) (n : Nat) (v : Option Int) : (s.raise k n v).line = s.line := rfl
@[simp] theorem State.raise_net (s : State) (k : AlarmKind) (n : Nat) (v : Option Int) : (s.raise k n v).net = s.net := rfl
@[simp] theorem State.raise_filt (s : State) (k : AlarmKind) (n : Nat) (v : Option Int) : (s.raise k n v).filt = s.filt := rfl
@[simp] theorem State.raise_ldr (s : State) (k : AlarmKind) (n : Nat) (v : Option Int) : (s.raise k n v).ldr = s.ldr := rfl
@[simp] theorem State.raise_tab (s : State) (k : AlarmKind) (n : Nat) (v : Option Int) : (s.raise k n v).tab = s.tab := rfl
@[simp] theorem State.raise_pins (s : State) (k : AlarmKind) (n : Nat) (v : Option Int) : (s.raise k n v).pins = s.pins := rfl
@[simp] theorem State.raise_events (s : State) (k : AlarmKind) (n : Nat) (v : Option Int) : (s.raise k n v).events = s.events ++ [.raise k n v] := rfl
@[simp] theorem State.raise_pending (s : State) (k : AlarmKind) (n : Nat) (v : Option Int) : (s.raise k n v).pending = s.pending := rfl

/-! State.clear. -/
@[simp] theorem State.clear_time (s : State) (k : AlarmKind) (n : Nat) : (s.clear k n).time = s.time := rfl
@[simp] theorem State.clear_trk (s : State) (k : AlarmKind) (n : Nat) : (s.clear k n).trk = s.trk := rfl
@[simp] theorem State.clear_flux (s : State) (k : AlarmKind) (n : Nat) : (s.clear k n).flux = s.flux := rfl
@[simp] theorem State.clear_heat (s : State) (k : AlarmKind) (n : Nat) : (s.clear k n).heat = s.heat := rfl
@[simp] theorem State.clear_pot (s : State) (k : AlarmKind) (n : Nat) : (s.clear k n).pot = s.pot := rfl
@[simp] theorem State.clear_exh (s : State) (k : AlarmKind) (n : Nat) : (s.clear k n).exh = s.exh := rfl
@[simp] theorem State.clear_alm (s : State) (k : AlarmKind) (n : Nat) : (s.clear k n).alm = s.alm := rfl
@[simp] theorem State.clear_line (s : State) (k : AlarmKind) (n : Nat) : (s.clear k n).line = s.line := rfl
@[simp] theorem State.clear_net (s : State) (k : AlarmKind) (n : Nat) : (s.clear k n).net = s.net := rfl
@[simp] theorem State.clear_filt (s : State) (k : AlarmKind) (n : Nat) : (s.clear k n).filt = s.filt := rfl
@[simp] theorem State.clear_ldr (s : State) (k : AlarmKind) (n : Nat) : (s.clear k n).ldr = s.ldr := rfl
@[simp] theorem State.clear_tab (s : State) (k : AlarmKind) (n : Nat) : (s.clear k n).tab = s.tab := rfl
@[simp] theorem State.clear_pins (s : State) (k : AlarmKind) (n : Nat) : (s.clear k n).pins = s.pins := rfl
@[simp] theorem State.clear_events (s : State) (k : AlarmKind) (n : Nat) : (s.clear k n).events = s.events ++ [.clear k n] := rfl
@[simp] theorem State.clear_pending (s : State) (k : AlarmKind) (n : Nat) : (s.clear k n).pending = s.pending := rfl

/-! State.mapTrack. -/
@[simp] theorem State.mapTrack_time (s : State) (f : BoardRecord → BoardRecord) : (s.mapTrack f).time = s.time := rfl
@[simp] theorem State.mapTrack_trk (s : State) (f : BoardRecord → BoardRecord) : (s.mapTrack f).trk = { s.trk with track := s.trk.track.map f } := rfl
@[simp] theorem State.mapTrack_flux (s : State) (f : BoardRecord → BoardRecord) : (s.mapTrack f).flux = s.flux := rfl
@[simp] theorem State.mapTrack_heat (s : State) (f : BoardRecord → BoardRecord) : (s.mapTrack f).heat = s.heat := rfl
@[simp] theorem State.mapTrack_pot (s : State) (f : BoardRecord → BoardRecord) : (s.mapTrack f).pot = s.pot := rfl
@[simp] theorem State.mapTrack_exh (s : State) (f : BoardRecord → BoardRecord) : (s.mapTrack f).exh = s.exh := rfl
@[simp] theorem State.mapTrack_alm (s : State) (f : BoardRecord → BoardRecord) : (s.mapTrack f).alm = s.alm := rfl
@[simp] theorem State.mapTrack_line (s : State) (f : BoardRecord → BoardRecord) : (s.mapTrack f).line = s.line := rfl
@[simp] theorem State.mapTrack_net (s : State) (f : BoardRecord → BoardRecord) : (s.mapTrack f).net = s.net := rfl
@[simp] theorem State.mapTrack_filt (s : State) (f : BoardRecord → BoardRecord) : (s.mapTrack f).filt = s.filt := rfl
@[simp] theorem State.mapTrack_ldr (s : State) (f : BoardRecord → BoardRecord) : (s.mapTrack f).ldr = s.ldr := rfl
@[simp] theorem State.mapTrack_tab (s : State) (f : BoardRecord → BoardRecord) : (s.mapTrack f).tab = s.tab := rfl
@[simp] theorem State.mapTrack_pins (s : State) (f : BoardRecord → BoardRecord) : (s.mapTrack f).pins = s.pins := rfl
@[simp] theorem State.mapTrack_events (s : State) (f : BoardRecord → BoardRecord) : (s.mapTrack f).events = s.events := rfl
@[simp] theorem State.mapTrack_pending (s : State) (f : BoardRecord → BoardRecord) : (s.mapTrack f).pending = s.pending := rfl

/-! State.setLoop. -/
@[simp] theorem State.setLoop_time (s : State) (i : Nat) (c : LoopCtx) : (s.setLoop i c).time = s.time := rfl
@[simp] theorem State.setLoop_trk (s : State) (i : Nat) (c : LoopCtx) : (s.setLoop i c).trk = s.trk := rfl
@[simp] theorem State.setLoop_flux (s : State) (i : Nat) (c : LoopCtx) : (s.setLoop i c).flux = s.flux := rfl
@[simp] theorem State.setLoop_heat (s : State) (i : Nat) (c : LoopCtx) : (s.setLoop i c).heat = { s.heat with loops := s.heat.loops.set i c } := rfl
@[simp] theorem State.setLoop_pot (s : State) (i : Nat) (c : LoopCtx) : (s.setLoop i c).pot = s.pot := rfl
@[simp] theorem State.setLoop_exh (s : State) (i : Nat) (c : LoopCtx) : (s.setLoop i c).exh = s.exh := rfl
@[simp] theorem State.setLoop_alm (s : State) (i : Nat) (c : LoopCtx) : (s.setLoop i c).alm = s.alm := rfl
@[simp] theorem State.setLoop_line (s : State) (i : Nat) (c : LoopCtx) : (s.setLoop i c).line = s.line := rfl
@[simp] theorem State.setLoop_net (s : State) (i : Nat) (c : LoopCtx) : (s.setLoop i c).net = s.net := rfl
@[simp] theorem State.setLoop_filt (s : State) (i : Nat) (c : LoopCtx) : (s.setLoop i c).filt = s.filt := rfl
@[simp] theorem State.setLoop_ldr (s : State) (i : Nat) (c : LoopCtx) : (s.setLoop i c).ldr = s.ldr := rfl
@[simp] theorem State.setLoop_tab (s : State) (i : Nat) (c : LoopCtx) : (s.setLoop i c).tab = s.tab := rfl
@[simp] theorem State.setLoop_pins (s : State) (i : Nat) (c : LoopCtx) : (s.setLoop i c).pins = s.pins := rfl
@[simp] theorem State.setLoop_events (s : State) (i : Nat) (c : LoopCtx) : (s.setLoop i c).events = s.events := rfl
@[simp] theorem State.setLoop_pending (s : State) (i : Nat) (c : LoopCtx) : (s.setLoop i c).pending = s.pending := rfl

/-! State.setEntry. -/
@[simp] theorem State.setEntry_time (s : State) (e : Nat) (c : EntryCtx) : (s.setEntry e c).time = s.time := rfl
@[simp] theorem State.setEntry_trk (s : State) (e : Nat) (c : EntryCtx) : (s.setEntry e c).trk = s.trk := rfl
@[simp] theorem State.setEntry_flux (s : State) (e : Nat) (c : EntryCtx) : (s.setEntry e c).flux = s.flux := rfl
@[simp] theorem State.setEntry_heat (s : State) (e : Nat) (c : EntryCtx) : (s.setEntry e c).heat = s.heat := rfl
@[simp] theorem State.setEntry_pot (s : State) (e : Nat) (c : EntryCtx) : (s.setEntry e c).pot = s.pot := rfl
@[simp] theorem State.setEntry_exh (s : State) (e : Nat) (c : EntryCtx) : (s.setEntry e c).exh = s.exh := rfl
@[simp] theorem State.setEntry_alm (s : State) (e : Nat) (c : EntryCtx) : (s.setEntry e c).alm = s.alm := rfl
@[simp] theorem State.setEntry_line (s : State) (e : Nat) (c : EntryCtx) : (s.setEntry e c).line = s.line := rfl
@[simp] theorem State.setEntry_net (s : State) (e : Nat) (c : EntryCtx) : (s.setEntry e c).net = s.net := rfl
@[simp] theorem State.setEntry_filt (s : State) (e : Nat) (c : EntryCtx) : (s.setEntry e c).filt = { s.filt with entries := s.filt.entries.set e c } := rfl
@[simp] theorem State.setEntry_ldr (s : State) (e : Nat) (c : EntryCtx) : (s.setEntry e c).ldr = s.ldr := rfl
@[simp] theorem State.setEntry_tab (s : State) (e : Nat) (c : EntryCtx) : (s.setEntry e c).tab = s.tab := rfl
@[simp] theorem State.setEntry_pins (s : State) (e : Nat) (c : EntryCtx) : (s.setEntry e c).pins = s.pins := rfl
@[simp] theorem State.setEntry_events (s : State) (e : Nat) (c : EntryCtx) : (s.setEntry e c).events = s.events := rfl
@[simp] theorem State.setEntry_pending (s : State) (e : Nat) (c : EntryCtx) : (s.setEntry e c).pending = s.pending := rfl

/-! State.setNodeFault. -/
@[simp] theorem State.setNodeFault_time (s : State) (f : OutFn) (b : Bool) : (s.setNodeFault f b).time = s.time := rfl
@[simp] theorem State.setNodeFault_trk (s : State) (f : OutFn) (b : Bool) : (s.setNodeFault f b).trk = s.trk := rfl
@[simp] theorem State.setNodeFault_flux (s : State) (f : OutFn) (b : Bool) : (s.setNodeFault f b).flux = s.flux := rfl
@[simp] theorem State.setNodeFault_heat (s : State) (f : OutFn) (b : Bool) : (s.setNodeFault f b).heat = s.heat := rfl
@[simp] theorem State.setNodeFault_pot (s : State) (f : OutFn) (b : Bool) : (s.setNodeFault f b).pot = s.pot := rfl
@[simp] theorem State.setNodeFault_exh (s : State) (f : OutFn) (b : Bool) : (s.setNodeFault f b).exh = s.exh := rfl
@[simp] theorem State.setNodeFault_alm (s : State) (f : OutFn) (b : Bool) : (s.setNodeFault f b).alm = s.alm := rfl
@[simp] theorem State.setNodeFault_line (s : State) (f : OutFn) (b : Bool) : (s.setNodeFault f b).line = s.line := rfl
@[simp] theorem State.setNodeFault_net (s : State) (f : OutFn) (b : Bool) : (s.setNodeFault f b).net = s.net := rfl
@[simp] theorem State.setNodeFault_filt (s : State) (f : OutFn) (b : Bool) : (s.setNodeFault f b).filt = { s.filt with nodeFaults := s.filt.nodeFaults.set (outFnNum f) b } := rfl
@[simp] theorem State.setNodeFault_ldr (s : State) (f : OutFn) (b : Bool) : (s.setNodeFault f b).ldr = s.ldr := rfl
@[simp] theorem State.setNodeFault_tab (s : State) (f : OutFn) (b : Bool) : (s.setNodeFault f b).tab = s.tab := rfl
@[simp] theorem State.setNodeFault_pins (s : State) (f : OutFn) (b : Bool) : (s.setNodeFault f b).pins = s.pins := rfl
@[simp] theorem State.setNodeFault_events (s : State) (f : OutFn) (b : Bool) : (s.setNodeFault f b).events = s.events := rfl
@[simp] theorem State.setNodeFault_pending (s : State) (f : OutFn) (b : Bool) : (s.setNodeFault f b).pending = s.pending := rfl

/-! State.setCursorOf. -/
@[simp] theorem State.setCursorOf_time (s : State) (e : Nat) (c : Option Cursor) : (s.setCursorOf e c).time = s.time := rfl
@[simp] theorem State.setCursorOf_trk (s : State) (e : Nat) (c : Option Cursor) : (s.setCursorOf e c).trk = s.trk := rfl
@[simp] theorem State.setCursorOf_flux (s : State) (e : Nat) (c : Option Cursor) : (s.setCursorOf e c).flux = s.flux := rfl
@[simp] theorem State.setCursorOf_heat (s : State) (e : Nat) (c : Option Cursor) : (s.setCursorOf e c).heat = s.heat := rfl
@[simp] theorem State.setCursorOf_pot (s : State) (e : Nat) (c : Option Cursor) : (s.setCursorOf e c).pot = s.pot := rfl
@[simp] theorem State.setCursorOf_exh (s : State) (e : Nat) (c : Option Cursor) : (s.setCursorOf e c).exh = s.exh := rfl
@[simp] theorem State.setCursorOf_alm (s : State) (e : Nat) (c : Option Cursor) : (s.setCursorOf e c).alm = s.alm := rfl
@[simp] theorem State.setCursorOf_line (s : State) (e : Nat) (c : Option Cursor) : (s.setCursorOf e c).line = s.line := rfl
@[simp] theorem State.setCursorOf_net (s : State) (e : Nat) (c : Option Cursor) : (s.setCursorOf e c).net = s.net := rfl
@[simp] theorem State.setCursorOf_filt (s : State) (e : Nat) (c : Option Cursor) : (s.setCursorOf e c).filt = s.filt := rfl
@[simp] theorem State.setCursorOf_ldr (s : State) (e : Nat) (c : Option Cursor) : (s.setCursorOf e c).ldr = { s.ldr with cursors := s.ldr.cursors.set e c } := rfl
@[simp] theorem State.setCursorOf_tab (s : State) (e : Nat) (c : Option Cursor) : (s.setCursorOf e c).tab = s.tab := rfl
@[simp] theorem State.setCursorOf_pins (s : State) (e : Nat) (c : Option Cursor) : (s.setCursorOf e c).pins = s.pins := rfl
@[simp] theorem State.setCursorOf_events (s : State) (e : Nat) (c : Option Cursor) : (s.setCursorOf e c).events = s.events := rfl
@[simp] theorem State.setCursorOf_pending (s : State) (e : Nat) (c : Option Cursor) : (s.setCursorOf e c).pending = s.pending := rfl

/-! State.setSnapshotOf. -/
@[simp] theorem State.setSnapshotOf_time (s : State) (e : Nat) (x : Snapshot) : (s.setSnapshotOf e x).time = s.time := rfl
@[simp] theorem State.setSnapshotOf_trk (s : State) (e : Nat) (x : Snapshot) : (s.setSnapshotOf e x).trk = s.trk := rfl
@[simp] theorem State.setSnapshotOf_flux (s : State) (e : Nat) (x : Snapshot) : (s.setSnapshotOf e x).flux = s.flux := rfl
@[simp] theorem State.setSnapshotOf_heat (s : State) (e : Nat) (x : Snapshot) : (s.setSnapshotOf e x).heat = s.heat := rfl
@[simp] theorem State.setSnapshotOf_pot (s : State) (e : Nat) (x : Snapshot) : (s.setSnapshotOf e x).pot = s.pot := rfl
@[simp] theorem State.setSnapshotOf_exh (s : State) (e : Nat) (x : Snapshot) : (s.setSnapshotOf e x).exh = s.exh := rfl
@[simp] theorem State.setSnapshotOf_alm (s : State) (e : Nat) (x : Snapshot) : (s.setSnapshotOf e x).alm = s.alm := rfl
@[simp] theorem State.setSnapshotOf_line (s : State) (e : Nat) (x : Snapshot) : (s.setSnapshotOf e x).line = s.line := rfl
@[simp] theorem State.setSnapshotOf_net (s : State) (e : Nat) (x : Snapshot) : (s.setSnapshotOf e x).net = s.net := rfl
@[simp] theorem State.setSnapshotOf_filt (s : State) (e : Nat) (x : Snapshot) : (s.setSnapshotOf e x).filt = s.filt := rfl
@[simp] theorem State.setSnapshotOf_ldr (s : State) (e : Nat) (x : Snapshot) : (s.setSnapshotOf e x).ldr = { s.ldr with snapshots := s.ldr.snapshots.set e (some x) } := rfl
@[simp] theorem State.setSnapshotOf_tab (s : State) (e : Nat) (x : Snapshot) : (s.setSnapshotOf e x).tab = s.tab := rfl
@[simp] theorem State.setSnapshotOf_pins (s : State) (e : Nat) (x : Snapshot) : (s.setSnapshotOf e x).pins = s.pins := rfl
@[simp] theorem State.setSnapshotOf_events (s : State) (e : Nat) (x : Snapshot) : (s.setSnapshotOf e x).events = s.events := rfl
@[simp] theorem State.setSnapshotOf_pending (s : State) (e : Nat) (x : Snapshot) : (s.setSnapshotOf e x).pending = s.pending := rfl

/-! derivePermit. -/
@[simp] theorem derivePermit_time (s : State) : (derivePermit s).time = s.time := rfl
@[simp] theorem derivePermit_trk (s : State) : (derivePermit s).trk = s.trk := rfl
@[simp] theorem derivePermit_flux (s : State) : (derivePermit s).flux = s.flux := rfl
@[simp] theorem derivePermit_heat (s : State) : (derivePermit s).heat = s.heat := rfl
@[simp] theorem derivePermit_pot (s : State) : (derivePermit s).pot = s.pot := rfl
@[simp] theorem derivePermit_exh (s : State) : (derivePermit s).exh = s.exh := rfl
@[simp] theorem derivePermit_alm (s : State) : (derivePermit s).alm = s.alm := rfl
@[simp] theorem derivePermit_line (s : State) : (derivePermit s).line = s.line := rfl
@[simp] theorem derivePermit_net (s : State) : (derivePermit s).net = s.net := rfl
@[simp] theorem derivePermit_filt (s : State) : (derivePermit s).filt = s.filt := rfl
@[simp] theorem derivePermit_ldr (s : State) : (derivePermit s).ldr = s.ldr := rfl
@[simp] theorem derivePermit_tab (s : State) : (derivePermit s).tab = s.tab := rfl
@[simp] theorem derivePermit_pins (s : State) : (derivePermit s).pins = { s.pins with permit := s.permitNow } := rfl
@[simp] theorem derivePermit_events (s : State) : (derivePermit s).events = s.events := rfl
@[simp] theorem derivePermit_pending (s : State) : (derivePermit s).pending = s.pending := rfl

/-! deriveLamps. -/
@[simp] theorem deriveLamps_time (s : State) : (deriveLamps s).time = s.time := rfl
@[simp] theorem deriveLamps_trk (s : State) : (deriveLamps s).trk = s.trk := rfl
@[simp] theorem deriveLamps_flux (s : State) : (deriveLamps s).flux = s.flux := rfl
@[simp] theorem deriveLamps_heat (s : State) : (deriveLamps s).heat = s.heat := rfl
@[simp] theorem deriveLamps_pot (s : State) : (deriveLamps s).pot = s.pot := rfl
@[simp] theorem deriveLamps_exh (s : State) : (deriveLamps s).exh = s.exh := rfl
@[simp] theorem deriveLamps_alm (s : State) : (deriveLamps s).alm = s.alm := rfl
@[simp] theorem deriveLamps_line (s : State) : (deriveLamps s).line = s.line := rfl
@[simp] theorem deriveLamps_net (s : State) : (deriveLamps s).net = s.net := rfl
@[simp] theorem deriveLamps_filt (s : State) : (deriveLamps s).filt = s.filt := rfl
@[simp] theorem deriveLamps_ldr (s : State) : (deriveLamps s).ldr = s.ldr := rfl
@[simp] theorem deriveLamps_tab (s : State) : (deriveLamps s).tab = s.tab := rfl
@[simp] theorem deriveLamps_pins (s : State) : (deriveLamps s).pins = { s.pins with lampG := lampGreen s.line.state, lampA := lampAmber s.line.state s.line.warn, lampR := lampRed s.line.state s.line.holding } := rfl
@[simp] theorem deriveLamps_events (s : State) : (deriveLamps s).events = s.events := rfl
@[simp] theorem deriveLamps_pending (s : State) : (deriveLamps s).pending = s.pending := rfl

/-! setClockRunning. -/
@[simp] theorem setClockRunning_time (s : State) (b : Bool) : (setClockRunning b s).time = s.time := rfl
@[simp] theorem setClockRunning_trk (s : State) (b : Bool) : (setClockRunning b s).trk = s.trk := rfl
@[simp] theorem setClockRunning_flux (s : State) (b : Bool) : (setClockRunning b s).flux = s.flux := rfl
@[simp] theorem setClockRunning_heat (s : State) (b : Bool) : (setClockRunning b s).heat = s.heat := rfl
@[simp] theorem setClockRunning_pot (s : State) (b : Bool) : (setClockRunning b s).pot = s.pot := rfl
@[simp] theorem setClockRunning_exh (s : State) (b : Bool) : (setClockRunning b s).exh = s.exh := rfl
@[simp] theorem setClockRunning_alm (s : State) (b : Bool) : (setClockRunning b s).alm = s.alm := rfl
@[simp] theorem setClockRunning_line (s : State) (b : Bool) : (setClockRunning b s).line = { s.line with clockRunning := b } := rfl
@[simp] theorem setClockRunning_net (s : State) (b : Bool) : (setClockRunning b s).net = s.net := rfl
@[simp] theorem setClockRunning_filt (s : State) (b : Bool) : (setClockRunning b s).filt = s.filt := rfl
@[simp] theorem setClockRunning_ldr (s : State) (b : Bool) : (setClockRunning b s).ldr = s.ldr := rfl
@[simp] theorem setClockRunning_tab (s : State) (b : Bool) : (setClockRunning b s).tab = s.tab := rfl
@[simp] theorem setClockRunning_pins (s : State) (b : Bool) : (setClockRunning b s).pins = s.pins := rfl
@[simp] theorem setClockRunning_events (s : State) (b : Bool) : (setClockRunning b s).events = s.events := rfl
@[simp] theorem setClockRunning_pending (s : State) (b : Bool) : (setClockRunning b s).pending = s.pending := rfl

/-! markManual. -/
@[simp] theorem markManual_time (s : State) (fs : List OutFn) : (markManual fs s).time = s.time := rfl
@[simp] theorem markManual_trk (s : State) (fs : List OutFn) : (markManual fs s).trk = s.trk := rfl
@[simp] theorem markManual_flux (s : State) (fs : List OutFn) : (markManual fs s).flux = s.flux := rfl
@[simp] theorem markManual_heat (s : State) (fs : List OutFn) : (markManual fs s).heat = s.heat := rfl
@[simp] theorem markManual_pot (s : State) (fs : List OutFn) : (markManual fs s).pot = s.pot := rfl
@[simp] theorem markManual_exh (s : State) (fs : List OutFn) : (markManual fs s).exh = s.exh := rfl
@[simp] theorem markManual_alm (s : State) (fs : List OutFn) : (markManual fs s).alm = s.alm := rfl
@[simp] theorem markManual_line (s : State) (fs : List OutFn) : (markManual fs s).line = s.line := rfl
@[simp] theorem markManual_net (s : State) (fs : List OutFn) : (markManual fs s).net = s.net := rfl
@[simp] theorem markManual_filt (s : State) (fs : List OutFn) : (markManual fs s).filt = { s.filt with marks := fs.foldl (fun m f => m.set (outFnNum f) true) s.filt.marks } := rfl
@[simp] theorem markManual_ldr (s : State) (fs : List OutFn) : (markManual fs s).ldr = s.ldr := rfl
@[simp] theorem markManual_tab (s : State) (fs : List OutFn) : (markManual fs s).tab = s.tab := rfl
@[simp] theorem markManual_pins (s : State) (fs : List OutFn) : (markManual fs s).pins = s.pins := rfl
@[simp] theorem markManual_events (s : State) (fs : List OutFn) : (markManual fs s).events = s.events := rfl
@[simp] theorem markManual_pending (s : State) (fs : List OutFn) : (markManual fs s).pending = s.pending := rfl

/-! State.clearIf. -/
@[simp] theorem State.clearIf_time (s : State) (b : Bool) (k : AlarmKind) (n : Nat) : (s.clearIf b k n).time = s.time := by cases b <;> rfl
@[simp] theorem State.clearIf_trk (s : State) (b : Bool) (k : AlarmKind) (n : Nat) : (s.clearIf b k n).trk = s.trk := by cases b <;> rfl
@[simp] theorem State.clearIf_flux (s : State) (b : Bool) (k : AlarmKind) (n : Nat) : (s.clearIf b k n).flux = s.flux := by cases b <;> rfl
@[simp] theorem State.clearIf_heat (s : State) (b : Bool) (k : AlarmKind) (n : Nat) : (s.clearIf b k n).heat = s.heat := by cases b <;> rfl
@[simp] theorem State.clearIf_pot (s : State) (b : Bool) (k : AlarmKind) (n : Nat) : (s.clearIf b k n).pot = s.pot := by cases b <;> rfl
@[simp] theorem State.clearIf_exh (s : State) (b : Bool) (k : AlarmKind) (n : Nat) : (s.clearIf b k n).exh = s.exh := by cases b <;> rfl
@[simp] theorem State.clearIf_alm (s : State) (b : Bool) (k : AlarmKind) (n : Nat) : (s.clearIf b k n).alm = s.alm := by cases b <;> rfl
@[simp] theorem State.clearIf_line (s : State) (b : Bool) (k : AlarmKind) (n : Nat) : (s.clearIf b k n).line = s.line := by cases b <;> rfl
@[simp] theorem State.clearIf_net (s : State) (b : Bool) (k : AlarmKind) (n : Nat) : (s.clearIf b k n).net = s.net := by cases b <;> rfl
@[simp] theorem State.clearIf_filt (s : State) (b : Bool) (k : AlarmKind) (n : Nat) : (s.clearIf b k n).filt = s.filt := by cases b <;> rfl
@[simp] theorem State.clearIf_ldr (s : State) (b : Bool) (k : AlarmKind) (n : Nat) : (s.clearIf b k n).ldr = s.ldr := by cases b <;> rfl
@[simp] theorem State.clearIf_tab (s : State) (b : Bool) (k : AlarmKind) (n : Nat) : (s.clearIf b k n).tab = s.tab := by cases b <;> rfl
@[simp] theorem State.clearIf_pins (s : State) (b : Bool) (k : AlarmKind) (n : Nat) : (s.clearIf b k n).pins = s.pins := by cases b <;> rfl
@[simp] theorem State.clearIf_events (s : State) (b : Bool) (k : AlarmKind) (n : Nat) :
    (s.clearIf b k n).events = if b then s.events ++ [.clear k n] else s.events := by
  cases b <;> rfl
@[simp] theorem State.clearIf_pending (s : State) (b : Bool) (k : AlarmKind) (n : Nat) : (s.clearIf b k n).pending = s.pending := by cases b <;> rfl

/-! Reading a loop after writing one. -/

/-- The context of a loop just written. -/
@[simp] theorem State.loopCtx_setLoop_self (s : State) (i : Nat) (c : LoopCtx) (h : i < s.heat.loops.length) :
    (s.setLoop i c).loopCtx i = c := by
  simp [State.loopCtx, List.getD, h]

/-- The context of another loop than the one written. -/
theorem State.loopCtx_setLoop_other (s : State) (i j : Nat) (c : LoopCtx) (h : i ≠ j) :
    (s.setLoop i c).loopCtx j = s.loopCtx j := by
  simp [State.loopCtx, List.getD, List.getElem?_set_ne h]

/-- Writing a loop keeps the number of loops. -/
@[simp] theorem State.setLoop_length (s : State) (i : Nat) (c : LoopCtx) :
    (s.setLoop i c).heat.loops.length = s.heat.loops.length := by
  simp

end Sys2Proof.Machine
end

