-- ==== Sys2Proof/Laws/Ops.lean ====
section
/-! SUPPORT. What the originate queues, the arbiters and the offers can do: they write the loop interface alone, and an offer to a
full UP queue posts LINK_OVERRUN (R151 to R153). -/
namespace Sys2Proof.Machine

/-- Writing the loop interface alone, twice over. -/
theorem net_frame_trans {a s1 s : State} (h1 : a = { s1 with net := a.net }) (h2 : s1 = { s with net := s1.net }) :
    a = { s with net := a.net } := h1.trans (by rw [h2])

/-- The grant of a DOWN slot writes the loop interface alone. -/
theorem grantSlot_frame {s s1 : State} {f : OutFn} {v : Nat} {rest : List (OutFn × Nat)} {sent : Bool}
    (h : grantSlot s f v rest = (s1, sent)) : s1 = { s with net := s1.net } := by
  unfold grantSlot at h
  split at h <;> cases h <;> rfl

/-- The DOWN arbiter writes the loop interface alone. -/
theorem arbitrateDown_frame (n : Nat) (s : State) : arbitrateDown n s = { s with net := (arbitrateDown n s).net } := by
  induction n generalizing s with
  | zero => rfl
  | succ n ih =>
    unfold arbitrateDown
    split
    · split
      · rfl
      · exact net_frame_trans (ih _) rfl
    · split <;> try rfl
      all_goals
        split
        · next h => exact grantSlot_frame h
        · next h => exact net_frame_trans (ih _) (grantSlot_frame h)

/-- Waking the DOWN transmitter writes the loop interface alone. -/
theorem State.wakeDown_frame (s : State) : s.wakeDown = { s with net := s.wakeDown.net } := by
  unfold State.wakeDown
  split
  · rfl
  · exact arbitrateDown_frame _ s

/-- The UP arbiter writes the loop interface alone. -/
theorem arbitrateUp_frame (s : State) : arbitrateUp s = { s with net := (arbitrateUp s).net } := by
  unfold arbitrateUp
  split
  · rfl
  · split <;> rfl

/-- Waking the UP transmitter writes the loop interface alone. -/
theorem State.wakeUp_frame (s : State) : s.wakeUp = { s with net := s.wakeUp.net } := by
  unfold State.wakeUp
  split
  · rfl
  · exact arbitrateUp_frame s

/-- An urgent zero writes the loop interface alone. -/
theorem State.offerUrgentZero_frame (s : State) (f : OutFn) :
    s.offerUrgentZero f = { s with net := (s.offerUrgentZero f).net } := by
  unfold State.offerUrgentZero
  rw [State.wakeDown_frame]

/-- A value for a slot writes the loop interface alone. -/
theorem State.offerSlot_frame (s : State) (f : OutFn) (v : Nat) :
    s.offerSlot f v = { s with net := (s.offerSlot f v).net } := by
  unfold State.offerSlot
  rw [State.wakeDown_frame]

/-- A command of 0 writes the loop interface alone. -/
theorem State.commandZero_frame (s : State) (f : OutFn) : s.commandZero f = { s with net := (s.commandZero f).net } := by
  unfold State.commandZero
  split
  · exact State.offerUrgentZero_frame s f
  · rfl

/-- A command value writes the loop interface alone. -/
theorem State.commandValue_frame (s : State) (f : OutFn) (v : Nat) :
    s.commandValue f v = { s with net := (s.commandValue f v).net } := by
  unfold State.commandValue
  split
  · exact State.offerSlot_frame s f v
  · rfl

/-- An offer to the UP normal queue writes the loop interface and the mailbox alone. -/
theorem State.offerUpNormal_frame (s : State) (t : Telegram) :
    s.offerUpNormal t = { s with net := (s.offerUpNormal t).net, events := (s.offerUpNormal t).events } := by
  unfold State.offerUpNormal
  split
  · rfl
  · split
    · rfl
    · rw [State.wakeUp_frame]

/-- What an offer to the UP normal queue posts: nothing, or LINK_OVERRUN. -/
theorem State.offerUpNormal_events (s : State) (t : Telegram) :
    (s.offerUpNormal t).events = s.events ∨ (s.offerUpNormal t).events = s.events ++ [.raise .linkOverrun 0 none] := by
  unfold State.offerUpNormal
  split
  · exact .inl rfl
  · split
    · exact .inr rfl
    · left; rw [State.wakeUp_frame]

/-- An offer to the UP urgent queue writes the loop interface and the mailbox alone. -/
theorem State.offerUpUrgent_frame (s : State) (t : Telegram) :
    s.offerUpUrgent t = { s with net := (s.offerUpUrgent t).net, events := (s.offerUpUrgent t).events } := by
  unfold State.offerUpUrgent
  split
  · rfl
  · split
    · exact State.offerUpNormal_frame s t
    · rw [State.wakeUp_frame]

/-- Forwarding writes the loop interface and the mailbox alone. -/
theorem State.forward_frame (s : State) (p : Port) (run : List Byte) :
    s.forward p run = { s with net := (s.forward p run).net, events := (s.forward p run).events } := by
  unfold State.forward
  split
  · split
    · rfl
    · rw [State.wakeDown_frame]
  · split
    · rfl
    · rw [State.wakeUp_frame]

/-- An alarm notice writes the loop interface and the mailbox alone. -/
theorem offerAlarmNotice_frame (r : AlarmRecord) (t : Telegram) (s : State) :
    offerAlarmNotice r t s =
      { s with net := (offerAlarmNotice r t s).net, events := (offerAlarmNotice r t s).events } := by
  unfold offerAlarmNotice
  split
  · rfl
  · split
    · exact State.offerUpUrgent_frame s t
    · exact State.offerUpUrgent_frame s t
    · exact State.offerUpNormal_frame s t
    · exact State.offerUpNormal_frame s t

end Sys2Proof.Machine
end

