-- ==== Sys2Proof/Laws/Blocks.lean ====
section
/-! SUPPORT. What each block's derivations can write: seen without that block's own part, the loop interface and the mailbox (and
what else the block writes), the state is unchanged by them. -/
namespace Sys2Proof.Machine

/-- A property that every loop's turn keeps is kept by the turns of all five. -/
theorem forLoops_keeps {P : State → Prop} {f : Nat → State → State} (h : ∀ i s, P s → P (f i s)) (s : State) (hs : P s) :
    P (forLoops f s) :=
  h 4 _ (h 3 _ (h 2 _ (h 1 _ (h 0 _ hs))))

/-! The exhaust monitor. -/

/-- The state without the exhaust monitor, the loop interface and the mailbox. -/
def exceptExhaust (s : State) : State :=
  { s with exh := {}, net := {}, events := [] }

@[simp] theorem exceptExhaust_post (s : State) (e : Event) : exceptExhaust (s.post e) = exceptExhaust s := rfl
@[simp] theorem exceptExhaust_raise (s : State) (k : AlarmKind) (n : Nat) (v : Option Int) : exceptExhaust (s.raise k n v) = exceptExhaust s := rfl
@[simp] theorem exceptExhaust_clear (s : State) (k : AlarmKind) (n : Nat) : exceptExhaust (s.clear k n) = exceptExhaust s := rfl
@[simp] theorem exceptExhaust_clearIf (s : State) (b : Bool) (k : AlarmKind) (n : Nat) : exceptExhaust (s.clearIf b k n) = exceptExhaust s := by
  cases b <;> rfl
@[simp] theorem exceptExhaust_commandZero (s : State) (f : OutFn) : exceptExhaust (s.commandZero f) = exceptExhaust s := by
  rw [State.commandZero_frame]; rfl
@[simp] theorem exceptExhaust_commandValue (s : State) (f : OutFn) (v : Nat) : exceptExhaust (s.commandValue f v) = exceptExhaust s := by
  rw [State.commandValue_frame]; rfl
@[simp] theorem exceptExhaust_offerUpNormal (s : State) (t : Telegram) : exceptExhaust (s.offerUpNormal t) = exceptExhaust s := by
  rw [State.offerUpNormal_frame]; rfl
@[simp] theorem exceptExhaust_offerUpUrgent (s : State) (t : Telegram) : exceptExhaust (s.offerUpUrgent t) = exceptExhaust s := by
  rw [State.offerUpUrgent_frame]; rfl

@[simp] theorem exceptExhaust_deriveFan (s : State) : exceptExhaust (deriveFan s) = exceptExhaust s := by
  unfold deriveFan
  dsimp only
  repeat' split
  all_goals first | rfl | (simp; done) | (simp; rfl)
@[simp] theorem exceptExhaust_resetFlow (s : State) : exceptExhaust (resetFlow s) = exceptExhaust s := by
  unfold resetFlow
  simp; rfl
@[simp] theorem exceptExhaust_applyFlow (s : State) : exceptExhaust (applyFlow s) = exceptExhaust s := by
  unfold applyFlow
  split <;> simp
@[simp] theorem exceptExhaust_deriveDemand (s : State) : exceptExhaust (deriveDemand s) = exceptExhaust s := by
  unfold deriveDemand
  dsimp only
  repeat' split
  all_goals first | rfl | (simp; done) | (simp; rfl)
@[simp] theorem exceptExhaust_exhaustOnLine (s : State) (old : LineState) : exceptExhaust (exhaustOnLine old s) = exceptExhaust s := by
  unfold exhaustOnLine
  simp; rfl
@[simp] theorem exceptExhaust_runOnExpire (s : State) : exceptExhaust (runOnExpire s) = exceptExhaust s := by
  unfold runOnExpire
  simp; rfl
@[simp] theorem exceptExhaust_takeValveReport (s : State) (b : Bool) : exceptExhaust (takeValveReport b s) = exceptExhaust s := by
  unfold takeValveReport
  simp; rfl
@[simp] theorem exceptExhaust_takeHeaterReport (s : State) (b : Bool) : exceptExhaust (takeHeaterReport b s) = exceptExhaust s := by
  unfold takeHeaterReport
  simp; rfl
@[simp] theorem exceptExhaust_takePumpReport (s : State) (b : Bool) : exceptExhaust (takePumpReport b s) = exceptExhaust s := by
  unfold takePumpReport
  simp; rfl
@[simp] theorem exceptExhaust_takeFeederReport (s : State) (b : Bool) : exceptExhaust (takeFeederReport b s) = exceptExhaust s := by
  unfold takeFeederReport
  simp; rfl
@[simp] theorem exceptExhaust_flowExpire (s : State) : exceptExhaust (flowExpire s) = exceptExhaust s := by
  unfold flowExpire
  repeat' split
  all_goals rfl
@[simp] theorem exceptExhaust_flowLimitWritten (s : State) : exceptExhaust (flowLimitWritten s) = exceptExhaust s := by
  unfold flowLimitWritten
  repeat' split
  all_goals first | rfl | simp
@[simp] theorem exceptExhaust_flowArrival (s : State) (v : Nat) : exceptExhaust (flowArrival v s) = exceptExhaust s := by
  unfold flowArrival
  simp; rfl
@[simp] theorem exceptExhaust_flowReport (s : State) (r : Report) : exceptExhaust (flowReport r s) = exceptExhaust s := by
  unfold flowReport
  simp; rfl
@[simp] theorem exceptExhaust_dpArrival (s : State) (v : Nat) : exceptExhaust (dpArrival v s) = exceptExhaust s := by
  unfold dpArrival
  repeat' split
  all_goals first | rfl | (simp; done) | (simp; rfl)
@[simp] theorem exceptExhaust_dpReport (s : State) (r : Report) : exceptExhaust (dpReport r s) = exceptExhaust s := by
  rfl
@[simp] theorem exceptExhaust_exhaustLineWrite (s : State) (col : Nat) : exceptExhaust (exhaustLineWrite col s) = exceptExhaust s := by
  unfold exhaustLineWrite
  repeat' split
  all_goals first | rfl | simp
@[simp] theorem exceptExhaust_exhaustRefresh (s : State) : exceptExhaust (exhaustRefresh s) = exceptExhaust s := by
  unfold exhaustRefresh
  simp; rfl
@[simp] theorem exceptExhaust_exhaustRestart (s : State) : exceptExhaust (exhaustRestart s) = exceptExhaust s := by
  unfold exhaustRestart
  simp; rfl

/-! The heat controller. -/

/-- The state without the heat controller, the loop interface and the mailbox. -/
def exceptHeat (s : State) : State :=
  { s with heat := {}, net := {}, events := [] }

@[simp] theorem exceptHeat_post (s : State) (e : Event) : exceptHeat (s.post e) = exceptHeat s := rfl
@[simp] theorem exceptHeat_raise (s : State) (k : AlarmKind) (n : Nat) (v : Option Int) : exceptHeat (s.raise k n v) = exceptHeat s := rfl
@[simp] theorem exceptHeat_clear (s : State) (k : AlarmKind) (n : Nat) : exceptHeat (s.clear k n) = exceptHeat s := rfl
@[simp] theorem exceptHeat_clearIf (s : State) (b : Bool) (k : AlarmKind) (n : Nat) : exceptHeat (s.clearIf b k n) = exceptHeat s := by
  cases b <;> rfl
@[simp] theorem exceptHeat_commandZero (s : State) (f : OutFn) : exceptHeat (s.commandZero f) = exceptHeat s := by
  rw [State.commandZero_frame]; rfl
@[simp] theorem exceptHeat_commandValue (s : State) (f : OutFn) (v : Nat) : exceptHeat (s.commandValue f v) = exceptHeat s := by
  rw [State.commandValue_frame]; rfl
@[simp] theorem exceptHeat_offerUpNormal (s : State) (t : Telegram) : exceptHeat (s.offerUpNormal t) = exceptHeat s := by
  rw [State.offerUpNormal_frame]; rfl
@[simp] theorem exceptHeat_offerUpUrgent (s : State) (t : Telegram) : exceptHeat (s.offerUpUrgent t) = exceptHeat s := by
  rw [State.offerUpUrgent_frame]; rfl

@[simp] theorem exceptHeat_setLoop (s : State) (i : Nat) (c : LoopCtx) : exceptHeat (State.setLoop s i c) = exceptHeat s := by
  rfl
@[simp] theorem exceptHeat_setManual (s : State) (i : Nat) (m : Option Nat) : exceptHeat (setManual i m s) = exceptHeat s := by
  unfold setManual
  split <;> rfl
@[simp] theorem exceptHeat_sendDuty (s : State) (i v : Nat) : exceptHeat (sendDuty i v s) = exceptHeat s := by
  unfold sendDuty
  simp
@[simp] theorem exceptHeat_sendZero (s : State) (i : Nat) : exceptHeat (sendZero i s) = exceptHeat s := by
  unfold sendZero
  simp
@[simp] theorem exceptHeat_setMolten (s : State) (b : Bool) : exceptHeat (setMolten b s) = exceptHeat s := by
  unfold setMolten
  split <;> rfl
@[simp] theorem exceptHeat_evalInBand (s : State) (i : Nat) : exceptHeat (evalInBand i s) = exceptHeat s := by
  unfold evalInBand
  dsimp only
  repeat' split
  all_goals simp
@[simp] theorem exceptHeat_endHeatFail (s : State) (i : Nat) : exceptHeat (endHeatFail i s) = exceptHeat s := by
  unfold endHeatFail
  simp
@[simp] theorem exceptHeat_heatFailTest (s : State) (i : Nat) : exceptHeat (heatFailTest i s) = exceptHeat s := by
  unfold heatFailTest
  split <;> simp
@[simp] theorem exceptHeat_testLoop (s : State) (i : Nat) : exceptHeat (testLoop i s) = exceptHeat s := by
  unfold testLoop
  simp
@[simp] theorem exceptHeat_writeTarget (s : State) (i v : Nat) : exceptHeat (writeTarget i v s) = exceptHeat s := by
  unfold writeTarget
  split <;> rfl
@[simp] theorem exceptHeat_setTarget (s : State) (i v : Nat) : exceptHeat (setTarget i v s) = exceptHeat s := by
  unfold setTarget
  split <;> simp
@[simp] theorem exceptHeat_evalTarget (s : State) (i : Nat) : exceptHeat (evalTarget i s) = exceptHeat s := by
  unfold evalTarget
  split <;> simp
@[simp] theorem exceptHeat_enterRest (s : State) (i : Nat) (st : LoopState) : exceptHeat (enterRest i st s) = exceptHeat s := by
  unfold enterRest
  repeat' split
  all_goals first | rfl | simp
@[simp] theorem exceptHeat_enterActive (s : State) (i : Nat) (old : LoopState) : exceptHeat (enterActive i old s) = exceptHeat s := by
  unfold enterActive
  split <;> simp
@[simp] theorem exceptHeat_enterManual (s : State) (i : Nat) : exceptHeat (enterManual i s) = exceptHeat s := by
  unfold enterManual
  simp
@[simp] theorem exceptHeat_deriveLoop (s : State) (i : Nat) : exceptHeat (deriveLoop i s) = exceptHeat s := by
  unfold deriveLoop
  dsimp only
  repeat' split
  all_goals simp
@[simp] theorem exceptHeat_compute (s : State) (i : Nat) (v : Int) : exceptHeat (compute i v s) = exceptHeat s := by
  unfold compute
  simp
@[simp] theorem exceptHeat_sensorCauses (s : State) (i : Nat) (r : Report) : exceptHeat (sensorCauses i r s) = exceptHeat s := by
  rfl
@[simp] theorem exceptHeat_overtempTest (s : State) (i : Nat) (v : Int) : exceptHeat (overtempTest i v s) = exceptHeat s := by
  unfold overtempTest
  dsimp only
  repeat' split
  all_goals simp
@[simp] theorem exceptHeat_driveLoop (s : State) (i : Nat) (v : Int) : exceptHeat (driveLoop i v s) = exceptHeat s := by
  unfold driveLoop
  split <;> simp
@[simp] theorem exceptHeat_applyReport (s : State) (i : Nat) (r : Option Report) : exceptHeat (applyReport i r s) = exceptHeat s := by
  unfold applyReport
  split <;> rfl
@[simp] theorem exceptHeat_overtempReleased (s : State) (i : Nat) : exceptHeat (overtempReleased i s) = exceptHeat s := by
  unfold overtempReleased
  dsimp only
  split <;> simp
@[simp] theorem exceptHeat_heatFailExpire (s : State) (i : Nat) : exceptHeat (heatFailExpire i s) = exceptHeat s := by
  rfl
@[simp] theorem exceptHeat_idleExpire (s : State) (i : Nat) : exceptHeat (idleExpire i s) = exceptHeat s := by
  unfold idleExpire
  simp
@[simp] theorem exceptHeat_maxDutyWritten (s : State) (i : Nat) : exceptHeat (maxDutyWritten i s) = exceptHeat s := by
  unfold maxDutyWritten
  dsimp only
  repeat' split
  all_goals simp
@[simp] theorem exceptHeat_enableWritten (s : State) (i : Nat) : exceptHeat (enableWritten i s) = exceptHeat s := by
  unfold enableWritten
  split <;> simp
@[simp] theorem exceptHeat_loopWrite (s : State) (i col : Nat) : exceptHeat (loopWrite i col s) = exceptHeat s := by
  unfold loopWrite
  repeat' split
  all_goals first | rfl | simp
@[simp] theorem exceptHeat_takeManual (s : State) (i m : Nat) : exceptHeat (takeManual i m s) = exceptHeat s := by
  unfold takeManual
  split <;> simp

/-! The pot controller, with the track records it writes into. -/

/-- The state without the pot controller and the track records it writes into, the loop interface and the mailbox. -/
def exceptPot (s : State) : State :=
  { s with pot := {}, net := {}, events := [], trk.track := [] }

@[simp] theorem exceptPot_post (s : State) (e : Event) : exceptPot (s.post e) = exceptPot s := rfl
@[simp] theorem exceptPot_raise (s : State) (k : AlarmKind) (n : Nat) (v : Option Int) : exceptPot (s.raise k n v) = exceptPot s := rfl
@[simp] theorem exceptPot_clear (s : State) (k : AlarmKind) (n : Nat) : exceptPot (s.clear k n) = exceptPot s := rfl
@[simp] theorem exceptPot_clearIf (s : State) (b : Bool) (k : AlarmKind) (n : Nat) : exceptPot (s.clearIf b k n) = exceptPot s := by
  cases b <;> rfl
@[simp] theorem exceptPot_commandZero (s : State) (f : OutFn) : exceptPot (s.commandZero f) = exceptPot s := by
  rw [State.commandZero_frame]; rfl
@[simp] theorem exceptPot_commandValue (s : State) (f : OutFn) (v : Nat) : exceptPot (s.commandValue f v) = exceptPot s := by
  rw [State.commandValue_frame]; rfl
@[simp] theorem exceptPot_offerUpNormal (s : State) (t : Telegram) : exceptPot (s.offerUpNormal t) = exceptPot s := by
  rw [State.offerUpNormal_frame]; rfl
@[simp] theorem exceptPot_offerUpUrgent (s : State) (t : Telegram) : exceptPot (s.offerUpUrgent t) = exceptPot s := by
  rw [State.offerUpUrgent_frame]; rfl

@[simp] theorem exceptPot_offerChange (s : State) (f : OutFn) (v : Nat) : exceptPot (State.offerChange s f v) = exceptPot s := by
  unfold State.offerChange
  split <;> simp
@[simp] theorem exceptPot_deriveFeederCmd (s : State) : exceptPot (deriveFeederCmd s) = exceptPot s := by
  unfold deriveFeederCmd
  dsimp only
  repeat' split
  all_goals first | rfl | (simp; done) | (simp; rfl)
@[simp] theorem exceptPot_setDrive (s : State) (v : Nat) : exceptPot (setDrive v s) = exceptPot s := by
  unfold setDrive
  simp; rfl
@[simp] theorem exceptPot_endAttempt (s : State) (f : FeederState) : exceptPot (endAttempt f s) = exceptPot s := by
  unfold endAttempt
  simp; rfl
@[simp] theorem exceptPot_deriveFeeder (s : State) : exceptPot (deriveFeeder s) = exceptPot s := by
  unfold deriveFeeder
  split
  · rfl
  · split <;> simp <;> rfl
@[simp] theorem exceptPot_interruptWave (s : State) : exceptPot (interruptWave s) = exceptPot s := by
  rfl
@[simp] theorem exceptPot_derivePump (s : State) : exceptPot (derivePump s) = exceptPot s := by
  unfold derivePump
  dsimp only
  repeat' split
  all_goals first | rfl | (simp; done) | (simp; rfl)
@[simp] theorem exceptPot_feederOnGate (s : State) (b : Bool) : exceptPot (feederOnGate b s) = exceptPot s := by
  unfold feederOnGate
  split <;> simp <;> rfl
@[simp] theorem exceptPot_evalGate (s : State) : exceptPot (evalGate s) = exceptPot s := by
  unfold evalGate
  dsimp only
  repeat' split
  all_goals first | rfl | (simp; done) | (simp; rfl)
@[simp] theorem exceptPot_raiseDwellOut (s : State) (r : BoardRecord) : exceptPot (raiseDwellOut r s) = exceptPot s := by
  unfold raiseDwellOut
  split
  · rfl
  · split <;> simp
@[simp] theorem exceptPot_levelTests (s : State) (v : Nat) : exceptPot (levelTests v s) = exceptPot s := by
  unfold levelTests
  repeat' split
  all_goals first | rfl | (simp; done) | (simp; rfl)
@[simp] theorem exceptPot_feederOnLevel (s : State) (v : Nat) : exceptPot (feederOnLevel v s) = exceptPot s := by
  unfold feederOnLevel
  repeat' split
  all_goals first | rfl | (simp; done) | (simp; rfl)
@[simp] theorem exceptPot_levelReport (s : State) (r : Report) : exceptPot (levelReport r s) = exceptPot s := by
  unfold levelReport
  simp; rfl
@[simp] theorem exceptPot_levelArrival (s : State) (v : Nat) : exceptPot (levelArrival v s) = exceptPot s := by
  unfold levelArrival
  simp; rfl
@[simp] theorem exceptPot_enterJam (s : State) : exceptPot (enterJam s) = exceptPot s := by
  unfold enterJam
  simp; rfl
@[simp] theorem exceptPot_restartInterval (s : State) : exceptPot (restartInterval s) = exceptPot s := by
  rfl
@[simp] theorem exceptPot_feedExpire (s : State) : exceptPot (feedExpire s) = exceptPot s := by
  unfold feedExpire
  split
  · rfl
  · split <;> simp <;> rfl
@[simp] theorem exceptPot_feedJamRelease (s : State) : exceptPot (feedJamRelease s) = exceptPot s := by
  unfold feedJamRelease
  split <;> rfl
@[simp] theorem exceptPot_takeCriticalRecord (s : State) (b : Bool) : exceptPot (takeCriticalRecord b s) = exceptPot s := by
  unfold takeCriticalRecord
  simp; rfl
@[simp] theorem exceptPot_potOnLine (s : State) (old : LineState) : exceptPot (potOnLine old s) = exceptPot s := by
  unfold potOnLine
  split
  · simp; rfl
  · simp
@[simp] theorem exceptPot_potLineWrite (s : State) : exceptPot (potLineWrite s) = exceptPot s := by
  unfold potLineWrite
  simp
@[simp] theorem exceptPot_potRefresh (s : State) : exceptPot (potRefresh s) = exceptPot s := by
  unfold potRefresh
  simp; rfl

/-! The flux controller, with SPRAY and the track records it writes into. -/

/-- The state without the flux controller, SPRAY and the track records it writes into, the mailbox. -/
def exceptFlux (s : State) : State :=
  { s with flux := {}, pins.spray := false, events := [], trk.track := [] }

@[simp] theorem exceptFlux_post (s : State) (e : Event) : exceptFlux (s.post e) = exceptFlux s := rfl
@[simp] theorem exceptFlux_raise (s : State) (k : AlarmKind) (n : Nat) (v : Option Int) : exceptFlux (s.raise k n v) = exceptFlux s := rfl
@[simp] theorem exceptFlux_clear (s : State) (k : AlarmKind) (n : Nat) : exceptFlux (s.clear k n) = exceptFlux s := rfl
@[simp] theorem exceptFlux_clearIf (s : State) (b : Bool) (k : AlarmKind) (n : Nat) : exceptFlux (s.clearIf b k n) = exceptFlux s := by
  cases b <;> rfl

@[simp] theorem exceptFlux_syncWindows (s : State) : exceptFlux (syncWindows s) = exceptFlux s := by
  rfl
@[simp] theorem exceptFlux_decideBridge (s : State) (moved : List Tag) : exceptFlux (decideBridge moved s) = exceptFlux s := by
  rfl
@[simp] theorem exceptFlux_driveValve (s : State) : exceptFlux (driveValve s) = exceptFlux s := by
  unfold driveValve
  dsimp only
  repeat' split
  all_goals rfl
@[simp] theorem exceptFlux_moveFluxStates (s : State) : exceptFlux (moveFluxStates s) = exceptFlux s := by
  rfl
@[simp] theorem exceptFlux_fluxEvaluate (s : State) : exceptFlux (fluxEvaluate s) = exceptFlux s := by
  unfold fluxEvaluate
  simp; rfl
@[simp] theorem exceptFlux_recomputeEligible (s : State) : exceptFlux (recomputeEligible s) = exceptFlux s := by
  unfold recomputeEligible
  split
  · rfl
  · simp; rfl
@[simp] theorem exceptFlux_recomputeLead (s : State) : exceptFlux (recomputeLead s) = exceptFlux s := by
  rfl
@[simp] theorem exceptFlux_fluxOnSpeed (s : State) : exceptFlux (fluxOnSpeed s) = exceptFlux s := by
  unfold fluxOnSpeed
  simp
@[simp] theorem exceptFlux_enterLow (s : State) (v : Option Int) : exceptFlux (enterLow v s) = exceptFlux s := by
  rfl
@[simp] theorem exceptFlux_pressureStatus (s : State) (v : Nat) : exceptFlux (pressureStatus v s) = exceptFlux s := by
  unfold pressureStatus
  repeat' split
  all_goals first | rfl | (simp; done) | (simp; rfl)
@[simp] theorem exceptFlux_pressureArrival (s : State) (v : Nat) : exceptFlux (pressureArrival v s) = exceptFlux s := by
  unfold pressureArrival
  simp; rfl
@[simp] theorem exceptFlux_pressureReport (s : State) (r : Report) : exceptFlux (pressureReport r s) = exceptFlux s := by
  unfold pressureReport
  repeat' split
  all_goals first | rfl | simp

/-! The alarm unit and TRIP. -/

/-- The state without the alarm unit and TRIP, the loop interface and the mailbox. -/
def exceptAlarm (s : State) : State :=
  { s with alm := {}, pins.trip := false, net := {}, events := [] }

@[simp] theorem exceptAlarm_post (s : State) (e : Event) : exceptAlarm (s.post e) = exceptAlarm s := rfl
@[simp] theorem exceptAlarm_raise (s : State) (k : AlarmKind) (n : Nat) (v : Option Int) : exceptAlarm (s.raise k n v) = exceptAlarm s := rfl
@[simp] theorem exceptAlarm_clear (s : State) (k : AlarmKind) (n : Nat) : exceptAlarm (s.clear k n) = exceptAlarm s := rfl
@[simp] theorem exceptAlarm_clearIf (s : State) (b : Bool) (k : AlarmKind) (n : Nat) : exceptAlarm (s.clearIf b k n) = exceptAlarm s := by
  cases b <;> rfl
@[simp] theorem exceptAlarm_commandZero (s : State) (f : OutFn) : exceptAlarm (s.commandZero f) = exceptAlarm s := by
  rw [State.commandZero_frame]; rfl
@[simp] theorem exceptAlarm_commandValue (s : State) (f : OutFn) (v : Nat) : exceptAlarm (s.commandValue f v) = exceptAlarm s := by
  rw [State.commandValue_frame]; rfl
@[simp] theorem exceptAlarm_offerUpNormal (s : State) (t : Telegram) : exceptAlarm (s.offerUpNormal t) = exceptAlarm s := by
  rw [State.offerUpNormal_frame]; rfl
@[simp] theorem exceptAlarm_offerUpUrgent (s : State) (t : Telegram) : exceptAlarm (s.offerUpUrgent t) = exceptAlarm s := by
  rw [State.offerUpUrgent_frame]; rfl

@[simp] theorem exceptAlarm_offerAlarmNotice (s : State) (r : AlarmRecord) (t : Telegram) : exceptAlarm (offerAlarmNotice r t s) = exceptAlarm s := by
  unfold offerAlarmNotice
  split
  · rfl
  · split <;> simp
@[simp] theorem exceptAlarm_evaluateHolding (s : State) : exceptAlarm (evaluateHolding s) = exceptAlarm s := by
  unfold evaluateHolding
  dsimp only
  repeat' split
  all_goals rfl
@[simp] theorem exceptAlarm_removalReport (s : State) (r : AlarmRecord) : exceptAlarm (removalReport r s) = exceptAlarm s := by
  unfold removalReport
  split <;> rfl
@[simp] theorem exceptAlarm_testListFull (s : State) : exceptAlarm (testListFull s) = exceptAlarm s := by
  unfold testListFull
  repeat' split
  all_goals first | rfl | (simp; done) | (simp; rfl)
@[simp] theorem exceptAlarm_removeRecord (s : State) (r : AlarmRecord) : exceptAlarm (removeRecord r s) = exceptAlarm s := by
  unfold removeRecord
  simp; rfl
@[simp] theorem exceptAlarm_replaceRecord (s : State) (r : AlarmRecord) : exceptAlarm (replaceRecord r s) = exceptAlarm s := by
  rfl
@[simp] theorem exceptAlarm_appendRecord (s : State) (r : AlarmRecord) : exceptAlarm (appendRecord r s) = exceptAlarm s := by
  unfold appendRecord
  simp; rfl
@[simp] theorem exceptAlarm_takeUpListFull (s : State) (k : AlarmKind) (sev : Severity) : exceptAlarm (takeUpListFull k sev s) = exceptAlarm s := by
  unfold takeUpListFull
  dsimp only
  repeat' split
  all_goals first | rfl | (simp; done) | (simp; rfl)
@[simp] theorem exceptAlarm_creationReport (s : State) (k : AlarmKind) : exceptAlarm (creationReport k s) = exceptAlarm s := by
  unfold creationReport
  split <;> rfl
@[simp] theorem exceptAlarm_takeRaise (s : State) (k : AlarmKind) (src : Nat) (v : Option Int) : exceptAlarm (takeRaise k src v s) = exceptAlarm s := by
  unfold takeRaise
  dsimp only
  repeat' split
  all_goals simp
@[simp] theorem exceptAlarm_alarmRaise (s : State) (k : AlarmKind) (src : Nat) (v : Option Int) : exceptAlarm (alarmRaise k src v s) = exceptAlarm s := by
  unfold alarmRaise
  split <;> simp
@[simp] theorem exceptAlarm_takeClear (s : State) (k : AlarmKind) (src : Nat) : exceptAlarm (takeClear k src s) = exceptAlarm s := by
  unfold takeClear
  repeat' split
  all_goals first | rfl | simp
@[simp] theorem exceptAlarm_alarmClear (s : State) (k : AlarmKind) (src : Nat) : exceptAlarm (alarmClear k src s) = exceptAlarm s := by
  unfold alarmClear
  split <;> simp
@[simp] theorem exceptAlarm_acknowledgeListFull (s : State) : exceptAlarm (acknowledgeListFull s) = exceptAlarm s := by
  unfold acknowledgeListFull
  split
  · rfl
  · split <;> simp <;> rfl
@[simp] theorem exceptAlarm_alarmAcknowledge (s : State) (k : AlarmKind) (src : Nat) : exceptAlarm (alarmAcknowledge k src s) = exceptAlarm s := by
  unfold alarmAcknowledge
  repeat' split
  all_goals first | rfl | simp

end Sys2Proof.Machine
end

