-- ==== Sys2Proof/Laws/Events.lean ====
section
/-! SUPPORT. Taking the waiting internal events: the induction every claim about settle goes through, and the quiet case. -/
namespace Sys2Proof.Machine

/-- With no event waiting, nothing is taken. -/
theorem drain_quiet (n : Nat) {s : State} (h : s.events = []) : drain n s = s := by
  cases n with
  | zero => rfl
  | succ n => simp [drain, h]

/-- With no event waiting, settle changes nothing. -/
@[simp] theorem settle_quiet {s : State} (h : s.events = []) : settle s = s := drain_quiet _ h

/-- Taking one event and then the rest. -/
theorem drain_succ (n : Nat) (e : Event) (rest : List Event) {s : State} (h : s.events = e :: rest) :
    drain (n + 1) s = drain n (handle e { s with events := rest }) := by
  simp [drain, h]

/-- A property that holds whatever stands in the mailbox, and that handling any event keeps, is kept by taking events. -/
theorem drain_keeps {P : State → Prop} (hm : ∀ s es, P s → P { s with events := es })
    (hh : ∀ e s, P s → P (handle e s)) : ∀ n s, P s → P (drain n s) := by
  intro n
  induction n with
  | zero => intro s hs; exact hs
  | succ n ih =>
    intro s hs
    unfold drain
    split
    · exact hs
    · exact ih _ (hh _ _ (hm _ _ hs))

/-- The same for settle. -/
theorem settle_keeps {P : State → Prop} (hm : ∀ s es, P s → P { s with events := es })
    (hh : ∀ e s, P s → P (handle e s)) {s : State} (hs : P s) : P (settle s) := drain_keeps hm hh _ s hs

/-- What an observation of the state shows is left alone by taking events, if it does not see the mailbox and handling any event
leaves it alone. -/
theorem drain_observe {α : Type} {obs : State → α} (hm : ∀ s es, obs { s with events := es } = obs s)
    (hh : ∀ e s, obs (handle e s) = obs s) (n : Nat) (s : State) : obs (drain n s) = obs s :=
  drain_keeps (P := fun t => obs t = obs s) (fun t es h => (hm t es).trans h) (fun e t h => (hh e t).trans h) n s rfl

/-- The same for settle. -/
theorem settle_observe {α : Type} {obs : State → α} (hm : ∀ s es, obs { s with events := es } = obs s)
    (hh : ∀ e s, obs (handle e s) = obs s) (s : State) : obs (settle s) = obs s := drain_observe hm hh _ s

end Sys2Proof.Machine
end

