-- ==== Sys2Proof/Laws/Requests.lean ====
section
/-! SUPPORT. A taken request: what a directive command comes to under Accepts, and the class of the requesting entry. -/
namespace Sys2Proof.Machine
open Sys2Proof.Safety

variable {r : Requester} {e : Nat} {s : State}

/-- A taken request leaves no event waiting before its directive. -/
theorem taken_events (h : Accepts r e s) : (taken s).events = [] := h.quiet

/-- With the link UP and no event waiting, hearing it only restarts the silence timer. -/
theorem settle_linkHeard_up (h : Accepts r e s) : settle (linkHeard .up s) = { s with net.upSilence := 0 } := by
  rw [show linkHeard .up s = { s with net.upSilence := 0 } by simp [linkHeard, h.link]]
  exact settle_quiet h.quiet

/-- The entry found for a source holds it. -/
theorem station_of_entry (h : s.requestingEntry r.src.toNat = some e) :
    (s.tab.station.getD e {}).address = some r.src.toNat := by
  obtain ⟨he, hp, _⟩ := List.findIdx?_eq_some_iff_getElem.mp h
  have := (beq_iff_eq).mp hp
  simp [List.getD, he, this]

/-- A requesting entry has a class as a request begins. -/
theorem holdsSource_entry (h : s.requestingEntry r.src.toNat = some e) : s.holdsSource e r.src.toNat = true := by
  simp only [State.holdsSource, station_of_entry h, beq_self_eq_true]

/-- A SERVICE-class check of a first directive reads the class the requesting entry's row holds. -/
theorem isService_entry (h : s.requestingEntry r.src.toNat = some e) :
    s.isService e r.src.toNat = (s.classCell e == .service) := by
  simp only [State.isService, holdsSource_entry h, Bool.true_and]

/-- Results that fit the payload make the reply whole. -/
theorem replyPayload_one (seq : Byte) {bytes : List Byte} (h : bytes.length ≤ 59) :
    replyPayload seq [bytes] = seq :: bytes := by
  simp [replyPayload, fittingResults, Config.payloadMax, h]

/-- The results kept whole fit the room (R146). -/
theorem fittingResults_fits (room : Nat) (results : List (List Byte)) :
    (fittingResults room results).flatten.length ≤ room := by
  induction results generalizing room with
  | nil => simp [fittingResults]
  | cons a rest ih =>
    unfold fittingResults
    split
    · have := ih (room - a.length)
      simp only [List.flatten_cons, List.length_append]
      omega
    · simp

/-- A reply never outgrows the payload (R146). -/
theorem replyPayload_length (seq : Byte) (results : List (List Byte)) : (replyPayload seq results).length ≤ 60 := by
  have h := fittingResults_fits 59 results
  by_cases he : fittingResults 59 results = results
  · rw [he] at h
    simp only [replyPayload, Config.payloadMax, Nat.reduceSub, he, if_true, List.length_cons]
    omega
  · simp only [replyPayload, Config.payloadMax, Nat.reduceSub, he, if_false, List.length_cons, List.cons_append,
      List.length_append, List.length_take]
    omega

/-- A command with one directive, where its largest result has room: the directive runs in the taken state, its events are taken,
the address closes and the reply fills its place (R146, R152, R172). -/
theorem receiveDirective_taken (h : Accepts r e s) (d : Directive) (hd : largestResult d ≤ 59) :
    receiveDirective r d s =
      answered r (directive e r.src.toNat true d (taken s)).bytes
        (settle (directive e r.src.toNat true d (taken s)).state) := by
  have h62 : ¬ 62 < r.src.toNat := Nat.not_lt.mpr h.station
  have hroom : ({ s with net.upSilence := 0 } : State).upNormalOccupancy < Config.upNormalCapacity := by
    have := h.room
    simp [State.upNormalOccupancy, h.free, Config.upNormalCapacity, this]
  have hentry : (taken s).requestingEntry r.src.toNat = some e := h.entry
  have hfit : roomFor 0 0 d = true := by simp [roomFor, Config.payloadMax, hd]
  simp only [receiveDirective, h62, if_false, settle_linkHeard_up h, if_neg h.other, requestArrives, hroom, if_true]
  simp only [takeRequest, runList]
  rw [show ({ ({ s with net.upSilence := 0 } : State) with
      net.reserved := some ({ s with net.upSilence := 0 } : State).net.upNormal.length } : State) = taken s from rfl]
  simp only [hentry, runItems, takeItem, List.flatten_nil, List.length_nil, List.nil_append, hfit, if_true]
  rfl

end Sys2Proof.Machine
end

