-- ==== Sys2Proof/Tests/Slice0.lean ====
section
/-! SUPPORT. The sitting's own tests: an ill-formed term for each check of WellFormed, the worked examples of the manual, and for
every statement with hypotheses a state and operands that meet them, clause by clause. -/
namespace Sys2Proof.Tests
open Sys2Proof Sys2Proof.Machine Sys2Proof.Safety

-- One theorem at a time: some sixty kernel evaluations at once would each hold a thread.
set_option Elab.async false

/-- The state after a command. -/
def after (c : Instr) (s : State) : State :=
  match exec c s with
  | .next t => t
  | .fault _ => s
  | .refused _ => s

/-- The supervisor at address 0, station entry 0 of class SERVICE after reset. -/
def boss : Requester := ⟨0, 7⟩

/-- After reset, with the UP link UP. -/
def up : State := { State.reset with net.upLink := true }

/-- A line table column at a value. -/
def withL (n v : Nat) (s : State) : State := { s with tab.line := s.tab.line.set n v }

/-- A board record as entered at a position, with a trail or without. -/
def board (tag : Tag) (lead : Pos) (trail : Option Pos) : BoardRecord :=
  { tag := tag, recipe := none, id := [], lead := lead, trail := trail, entryTime := {}, flux := .none }

/-! WellFormed refuses. -/

theorem test_source_63_is_refused : (Instr.clockRun ⟨63, 1⟩).wellFormed = false := by decide
theorem test_thirty_values_are_refused : (Instr.writeRun boss (List.replicate 30 1)).wellFormed = false := by decide
theorem test_long_id_is_refused : (Instr.announceBoard boss 3 (List.replicate 57 1)).wellFormed = false := by decide
theorem test_empty_run_is_refused : (Instr.telegramReceived .up []).wellFormed = false := by decide
theorem test_request_is_accepted : (Instr.writeRun boss (List.replicate 29 1)).wellFormed = true := by decide

/-! No word spells a command. -/

theorem test_no_word_decodes : decodeTableWord 32 0xFFFFFFFF = none := rfl
theorem test_fetch_word_leaves_the_state : State.reset.withFetchWord 8 1 = State.reset := rfl

/-! Encodings and conversions: R144's check value, R159's and 10.10's numbers. -/

theorem test_crc_check_value : crc16 [0x31, 0x32, 0x33, 0x34, 0x35, 0x36, 0x37, 0x38, 0x39] = 0x29B1 := by decide +kernel
theorem test_convert_4660 : convertRaw { quantity := .zoneTemp3, gain := 263, offset := -120 } 4660 = 1077 := by decide +kernel
theorem test_convert_5102 : convertRaw { quantity := .zoneTemp4, gain := 263, offset := -95 } 5102 = 1215 := by decide +kernel
theorem test_half_rounds_away : convertRaw { quantity := .zoneTemp1 } 0 = 0 ∧ div1024 2560 = 3 ∧ div1024 (-2560) = -3 := by decide +kernel
theorem test_level_clamps_at_0 : convertRaw { quantity := .potLevel, gain := 700 } (-1500) = 0 := by decide +kernel

/-! The encoder (R3 to R5). -/

theorem test_a_first_is_forward : (after (.encoderTransition true false) State.reset).trk.position = 1 := by decide +kernel
theorem test_b_first_is_reverse : (after (.encoderTransition false true) State.reset).trk.revDist = 1 := by decide +kernel
theorem test_position_wraps :
    (after (.encoderTransition true false) { State.reset with trk.position := 0xFFFFFF }).trk.position = 0 := by decide +kernel

/-! The heater computation (4.10 and 4.12). -/

/-- Loop 3 of 4.10 before the first arrival, its last computation at 500 ms. -/
def climbing : LoopCtx :=
  { state := .active, target := 1200, setpoint := 1150, remainder := 600, integrator := 51200, lastComp := some 500 }

theorem test_climb_first :
    let c := computed 256 40 800 20 1000 1105 climbing
    c.setpoint = 1160 ∧ c.remainder = 600 ∧ c.integrator = 52300 ∧ c.duty = 259 := by decide +kernel
theorem test_climb_third :
    let c := computed 256 40 800 20 4100 1130 (computed 256 40 800 20 1500 1112 (computed 256 40 800 20 1000 1105 climbing))
    c.setpoint = 1200 ∧ c.remainder = 0 ∧ c.integrator = 59060 ∧ c.duty = 301 := by decide +kernel
theorem test_low_saturation :
    let c := computed 256 40 800 20 1000 3500 { target := 1000, setpoint := 1000, integrator := 52300, lastComp := some 500 }
    c.integrator = 12300 ∧ c.duty = 0 ∧ c.satLow = true := by decide +kernel
theorem test_truncates_toward_zero :
    (computed 0 7 800 0 130 103 { target := 100, setpoint := 100, integrator := 10, lastComp := some 0 }).integrator = 8 := by
  decide +kernel

/-! The feeder (5.8, t = 34,000). -/

/-- FEEDING with a baseline of 378 and a level of 380, feed timeout 30 s, minimum rise 5, speeds 600 and 250. -/
def feeding : State :=
  withL 33 30 (withL 34 5 (withL 31 600 (withL 32 250 { State.reset with
    line.state := .ready, pot.feeder := .feeding, pot.level := some 380, pot.baseline := some 378
    pot.feedTimer := some ⟨30000, 30000⟩, pot.feedDrive := 600, pot.feederCmd := 600 })))

theorem test_short_rise_slows :
    let p := (after .feedTimerExpiry feeding).pot
    p.failures = 1 ∧ p.feederCmd = 250 ∧ p.baseline = some 380 ∧ p.feedTimer = some ⟨0, 30000⟩ := by decide +kernel
theorem test_third_failure_jams :
    let t := after .feedTimerExpiry { feeding with pot.failures := 2 }
    t.pot.feeder = .jammed ∧ t.pot.feederCmd = 0 ∧ (t.alm.records.map fun r => r.kind) = [.feedJam] := by decide +kernel

/-- A minimum rise of 0 finds every rise sufficient (R82), here one of -8. -/
theorem test_no_minimum_rise_never_fails :
    let p := (after .feedTimerExpiry (withL 34 0 { feeding with pot.level := some 370 })).pot
    p.failures = 0 ∧ p.feeder = .feeding ∧ p.feederCmd = 600 ∧ p.baseline = some 370 := by decide +kernel

/-! A recipe write across a pinned row (11.7). -/

/-- Row 4 pinned, the cursor on rows 2 to 6 of column 8 in COLUMN mode. -/
def loading : State :=
  { up with
    trk.pins := (List.replicate 32 0).set 4 1
    ldr.cursors := [some ⟨0, 2, 6, 8, 8, true, 2, 8⟩, none, none, none] }

theorem test_write_stops_at_pinned_row :
    let t := after (.writeRun boss [1680, 1720, 1760, 1790]) loading
    t.P 2 8 = 1680 ∧ t.P 3 8 = 1720 ∧ t.P 4 8 = 0 ∧ t.P 5 8 = 0 ∧
      t.cursorOf 0 = some ⟨0, 2, 6, 8, 8, true, 4, 8⟩ := by decide +kernel
theorem test_write_clamps :
    (after (.writeRun boss [3600]) { loading with trk.pins := List.replicate 32 0 }).P 2 8 = 3500 := by decide +kernel

/-- A second SERVICE station, and station 0's cursor on its own row of the station table. -/
def ownRow : State :=
  { up with
    tab.station := [⟨some 0, .service⟩, ⟨some 5, .service⟩, {}, {}]
    ldr.cursors := [some ⟨6, 0, 3, 0, 1, false, 0, 0⟩, none, none, none] }

theorem test_run_over_its_own_row_goes_on :
    let t := after (.writeRun boss [9, 0]) ownRow
    t.tab.station.getD 0 {} = ⟨some 9, .operate⟩ ∧ t.cursorOf 0 = none ∧ t.net.upTx = some (frame 1 0 4 [7, 0, 2]) := by
  decide +kernel

/-! A reply kept within 60 bytes (R146). -/

theorem test_overfull_reply_keeps_what_fits :
    (replyPayload 9 [List.replicate 57 1, [0, 0], [0]]).take 60 = 9 :: List.replicate 57 1 ++ [0, 0] ∧
      (replyPayload 9 [List.replicate 57 1, [0, 0], [0]]).length = 60 ∧
      replyPayload 9 [List.replicate 57 1, [0]] = 9 :: List.replicate 57 1 ++ [0] := by
  decide +kernel

/-! Timers without a limit wrap (R2), and FUME_LOSS after a limit written 0 and back (R102). -/

theorem test_timer_without_limit_wraps : countOn 0 4294967295 = 0 ∧ countOn 60000 60000 = 60000 := by decide

/-- Demand ON, LOW, in stage 1 again after a limit of 0, FUME_FLOW_LOW still present, the limit 1 s. -/
def shortAgain : State :=
  withL 36 800 (withL 37 1 { State.reset with
    line.state := .ready, exh.demand := true, exh.fan := 1000, exh.flow := some 100, exh.flowSensor := .good
    exh.condFlowLow := true, exh.condLoss := true })

theorem test_flow_alarms_once_per_entry :
    let one := after .flowLowTimerExpiry shortAgain
    let two := after .flowLowTimerExpiry one
    one.alm.records.map (fun r => (r.kind, r.count)) = [(.fumeFlowLow, 1)] ∧
      two.alm.records.map (fun r => (r.kind, r.count)) = [(.fumeFlowLow, 1), (.fumeLoss, 1)] ∧
      (after .flowLowTimerExpiry two).alm.records = two.alm.records := by decide +kernel

/-! An OUTPUT from the supervisor (10.11). -/

/-- HEAT_POT on node 30 channel 0 and WAVE_PUMP on node 30 channel 1, UP transmitting. -/
def mapped (st : LineState) : State :=
  { up with
    net.upTx := some [], net.downTx := some []
    line.state := st
    tab.output := (State.reset.tab.output.set 4 ⟨30, 0, true⟩).set 5 ⟨30, 1, true⟩ }

/-- OUTPUT from 0 to node 30 with the pair (1, 600). -/
def pumpOutput : List Byte := frame 0 30 2 [1, 2, 88]

theorem test_output_is_answered_owned :
    let t := after (.telegramReceived .up pumpOutput) (mapped .ready)
    t.net.upNormal = [⟨0, 4, [0, 14, 5]⟩] ∧ t.net.downFifo = [] := by decide +kernel
theorem test_output_in_service_marks :
    let t := after (.telegramReceived .up pumpOutput) (mapped .service)
    t.net.downFifo = [pumpOutput] ∧ t.marked .wavePump = true ∧ t.marked .heatPot = false := by decide +kernel

/-! LINE RESTART out of a stop by the pot's overtemperature (R61). -/

/-- STOPPED with loop 5 in FAULT, its OVERTEMP record CLEARED, the pot setpoint 2500. -/
def overheated : State :=
  withL 23 2500 { up with
    line.state := .stopped, line.holding := some .stop, pins.hold := true, pins.trip := true
    tab.loop := State.reset.tab.loop.set 4 [0, 0, 800, 0, 50, 1, 2700]
    heat.loops := State.reset.heat.loops.set 4
      { state := .fault, causes := { latch := true }, target := 2500, setpoint := 2490, lastTemp := some 2600 }
    alm := { holding := some .stop, records := [{
      kind := .overtemp, source := 5, severity := .stop, masked := false, state := .cleared, count := 1
      first := {}, last := {}, value := some 2710, lineState := .ready }] } }

theorem test_restart_empties_the_pot_loop :
    let t := after (.lineRestart boss) overheated
    t.loopCtx 4 = { target := 2500 } ∧ t.line.state = .idle ∧ t.alm.records = [] ∧ t.pins.trip = false := by decide +kernel

/-! A SAMPLE (10.10). -/

/-- Entries 4 and 5 on node 21. -/
def amplified : State :=
  { State.reset with tab.channel :=
      (State.reset.tab.channel.set 4 ⟨21, 0, .zoneTemp3, 263, -120, false, 2000⟩).set 5 ⟨21, 1, .zoneTemp4, 263, -95, false, 2000⟩ }

theorem test_sample_delivers_and_faults :
    let t := after (.telegramReceived .down (frame 21 63 1 ([0, 0] ++ be 2 4660 ++ [1] ++ be 2 32767))) amplified
    (t.loopCtx 2).lastTemp = some 1077 ∧ t.entryCtx 5 = ⟨0, true, false⟩ ∧ t.net.upFifo = [] ∧
      (t.alm.records.map fun r => (r.kind, r.source, r.value)) = [(.sensorFault, 5, some 32767)] := by decide +kernel

/-! What the hypotheses of the statements meet, in the statements' order. -/

theorem witness_emptyQueueStep : State.reset.pending = [] := rfl
theorem witness_encoderWithoutAdvance :
    (true ≠ State.reset.trk.encA ↔ true ≠ State.reset.trk.encB) ∧
      (true ≠ (withL 0 2 State.reset).trk.encA ∧ false = (withL 0 2 State.reset).trk.encB ∧ true ≠ false) ∧
      (withL 0 2 State.reset).trk.residue + 1 < (if (withL 0 2 State.reset).L 0 = 0 then 1 else (withL 0 2 State.reset).L 0) := by
  decide +kernel

/-- A candidate captured at 0, the position so far, and the debounce distance 20 of reset. -/
def debouncing (blocked : Bool) (at_ : Pos) : State :=
  { State.reset with trk.eyeBlocked := !blocked, trk.candidate := some ⟨0, blocked⟩, trk.position := at_ }

theorem witness_positionAdvance :
    let s := debouncing true 18
    forwardLevels true false s ∧ (if s.L 0 = 0 then 1 else s.L 0) ≤ s.trk.residue + 1 ∧
      (∀ c, s.trk.candidate = some c → (s.trk.position + 1 - c.position).toNat < s.L 1) ∧
      State.reset.trk.candidate = none :=
  ⟨Or.inl (by decide +kernel), by decide +kernel, fun c h => by cases h; decide +kernel, rfl⟩
theorem witness_encoderWithoutAdvance_reverse : false = State.reset.trk.encA ∧ true ≠ State.reset.trk.encB ∧ true ≠ false := by decide +kernel
theorem witness_eyeCandidate :
    State.reset.L 1 ≠ 0 ∧ ({ State.reset with trk.candidate := some ⟨0, true⟩ } : State).trk.candidate ≠ none ∧
      false = State.reset.trk.eyeBlocked := by decide +kernel
theorem witness_leadingEdge :
    ((withL 1 0 State.reset).L 1 = 0 ∧ (withL 1 0 State.reset).trk.candidate = none ∧
      (withL 1 0 State.reset).trk.eyeBlocked = false) ∧
      (let s := debouncing true 19
       forwardLevels true false s ∧ (if s.L 0 = 0 then 1 else s.L 0) ≤ s.trk.residue + 1 ∧
         s.trk.candidate = some ⟨0, true⟩ ∧ s.L 1 ≤ (s.trk.position + 1 - 0).toNat) :=
  ⟨by decide +kernel, Or.inl (by decide +kernel), by decide +kernel, rfl, by decide +kernel⟩

/-- The track with 15 records, and the head announce of row 3. -/
def nearlyFull : State :=
  { debouncing true 19 with
    trk.track := (List.range 15).map fun i => board (BitVec.ofNat 16 i) 0 (some 10), trk.announces := [⟨3, [1], 5⟩] }

theorem test_sixteenth_record_takes_the_head_announce :
    let t := after (.encoderTransition true false) (withL 13 900 nearlyFull)
    t.trk.track.length = 16 ∧ (t.trk.track.getLast?.map fun r => (r.recipe, r.lead)) = some (some 3, 0) ∧
      t.trk.announces = [] := by decide +kernel
theorem test_seventeenth_board_overflows :
    let s : State := { nearlyFull with trk.track := board 15 0 (some 10) :: nearlyFull.trk.track }
    let t := after (.encoderTransition true false) (withL 13 900 s)
    t.trk.track.length = 16 ∧ t.trk.announces.length = 1 ∧ (t.alm.records.map fun r => r.kind) = [.trackOverflow] := by
  decide +kernel

/-- An open record at the eye and an older closed one, with no debounce and an exit at 300. -/
def atEye : State :=
  withL 1 0 (withL 13 300 { State.reset with
    trk.eyeBlocked := true, trk.position := 100, trk.track := [board 0 0 (some 40), board 1 60 none] })

theorem witness_trailingEdge :
    (atEye.L 1 = 0 ∧ atEye.trk.candidate = none ∧ atEye.trk.eyeBlocked = true) ∧
      (let s := debouncing false 19
       forwardLevels true false s ∧ (if s.L 0 = 0 then 1 else s.L 0) ≤ s.trk.residue + 1 ∧
         s.trk.candidate = some ⟨0, false⟩ ∧ s.L 1 ≤ (s.trk.position + 1 - 0).toNat) :=
  ⟨by decide +kernel, Or.inl (by decide +kernel), by decide +kernel, rfl, by decide +kernel⟩
theorem test_trailing_edge_ends_eye_blocked :
    let s : State := { atEye with trk.condEye := some 1, alm.records := [{
      kind := .eyeBlocked, source := 1, severity := .stop, masked := false, state := .active, count := 1
      first := {}, last := {}, value := none, lineState := .idle }] }
    let t := after (.eyeChange false) (withL 15 50 s)
    t.trk.condEye = none ∧ (t.trk.track.map fun r => (r.tag, r.length, r.flags.short)) = [(0, none, false), (1, some 40, true)] ∧
      (t.alm.records.map fun r => (r.kind, r.state)) = [(.eyeBlocked, .cleared), (.shortBoard, .cleared)] := by decide +kernel
theorem test_exit_sends_its_notice :
    let s : State := { up with net.upTx := some [], trk.position := 299, trk.track := [board 0 0 (some 0)] }
    let t := after (.encoderTransition true false) (withL 13 300 s)
    t.trk.track = [] ∧ t.trk.exited = 1 ∧ t.net.upNormal = [noticeBoardExit (board 0 0 (some 0))] := by decide +kernel
theorem witness_heatTimers :
    4 < 5 ∧ State.reset.heat.loops.length = 5 ∧ (State.reset.loopCtx 4).lastTemp = none ∧
      ((State.reset.setLoop 4 { lastTemp := some 2500 }).loopCtx 4).lastTemp = some 2500 := by decide +kernel
theorem witness_computationBounds : ({ integrator := 800 * 256 } : LoopCtx).integrator ≤ 800 * 256 := by decide +kernel
theorem witness_feedTimerExpiry :
    feeding.pot.feeder = .feeding ∧ feeding.pot.feedTimer = some ⟨30000, 30000⟩ ∧ 0 < (⟨30000, 30000⟩ : FeedTimer).limit ∧
      feeding.pot.level = some 380 ∧ feeding.pot.baseline = some 378 ∧ State.reset.pot.feeder ≠ .feeding := by decide +kernel
theorem witness_refreshAndOffers :
    (State.reset.outputRow .feeder).bound = false ∧
      ((mapped .ready).outputRow .wavePump).bound = true ∧ (mapped .ready).marked .wavePump = false ∧
      (mapped .ready).net.downTx ≠ none := by decide +kernel
theorem witness_exhaustTimers :
    let s := withL 36 800 (withL 37 1 { State.reset with exh.demand := true, exh.flow := some 100, exh.flowSensor := .good })
    (s.exh.demand = true ∧ s.flowBand = .low ∧ 0 < s.L 37 ∧ s.exh.lossTaken = false) ∧ State.reset.exh.demand = false ∧
      ({ s with exh.lossTaken := true } : State).exh.lossTaken = true := by decide +kernel

/-- WARMUP with every loop disabled, molten, and a level above low. -/
def settling : State :=
  { State.reset with line.state := .warmup, heat.potMolten := true, pot.level := some 400 }

theorem witness_lineStateChange :
    settleCondition settling = true ∧ settling.heat.loops.length = 5 ∧ settleCondition State.reset = false ∧
      feeding.pot.jam = false ∧ feeding.pot.feeder = .feeding ∧ up.net.upLink = true ∧
      16 ≤ ({ up with net.upNormal := List.replicate 16 ⟨0, 4, []⟩ } : State).upNormalOccupancy ∧
      (let s : State := { mapped .service with filt.marks := (List.replicate 8 false).set 5 true }
       s.line.state = .service ∧ s.marked .wavePump = true ∧ (s.outputRow .wavePump).bound = true) := by decide +kernel
theorem test_published_stop_stops_the_line :
    let t := handle (.published (some .stop) false) { up with line.state := .ready, net.upTx := some [] }
    t.line.state = .stopped ∧ t.pins.hold = true ∧ t.pins.lampR = .steady ∧
      t.net.upNormal = [⟨63, 5, [4, 2, 4, 2, 0, 0, 0, 0, 0]⟩] := by decide +kernel
theorem test_published_drain_drains_only_ready :
    (handle (.published (some .drain) false) { up with line.state := .ready }).line.state = .drain ∧
      (handle (.published (some .drain) false) { up with line.state := .service }).line.state = .service := by decide +kernel
theorem test_leaving_service_sends_a_marked_function_its_zero :
    let s : State := { mapped .service with filt.marks := (List.replicate 8 false).set 5 true }
    let t := changeLine .idle .directive s
    t.net.downUrgent = [.wavePump] ∧ t.marked .wavePump = false := by decide +kernel
theorem witness_lineClock :
    State.reset.events = [] ∧
      clockInRange ({ State.reset with line.clock := ⟨65535, 23, 59, 59⟩ } : State).line.clock := by
  unfold clockInRange; decide +kernel

/-- A good request frame from 0 to 1 (IDENTIFY), seven bytes longer than its payload. -/
def goodRun : List Byte := frame 0 1 3 [7, 1]

theorem witness_envelope_refused :
    ([] : List Byte).length < 7 ∧ (goodRun.set 0 0).getD 0 0 ≠ 0xD5 ∧ 60 < ((goodRun.set 4 61).getD 4 0).toNat ∧
      (goodRun ++ [0]).length ≠ ((goodRun ++ [0]).getD 4 0).toNat + 7 ∧ 63 < ((goodRun.set 1 64).getD 1 0).toNat ∧
      62 < ((goodRun.set 2 63).getD 2 0).toNat ∧
      (goodRun.set 6 2).drop ((goodRun.set 6 2).length - 2) ≠
        be 2 (crc16 (((goodRun.set 6 2).drop 1).take ((goodRun.set 6 2).length - 3))).toNat := by decide +kernel
theorem witness_envelope_readsBack : 62 ≤ 62 ∧ 63 ≤ 63 ∧ 255 < 256 ∧ (List.replicate 60 (7 : Byte)).length ≤ 60 := by decide +kernel

/-- What the receive checks read from a frame. -/
def readBack (source dest kind : Nat) (payload : List Byte) : Received :=
  { dest := dest, source := source, kind := kind, payload := payload, raw := frame source dest kind payload }

theorem witness_telegramDisposition :
    checkRun (frame 1 9 7 []) = some (readBack 1 9 7 []) ∧ (1 : Nat) = (settle (linkHeard .up up)).net.address ∧
      checkRun goodRun = some (readBack 0 1 3 [7, 1]) ∧
      (let full : State := { up with net.upNormal := List.replicate 16 ⟨0, 4, []⟩ }
       (readBack 0 1 3 [7, 1]).source ≠ (settle (linkHeard .up full)).net.address ∧
         (readBack 0 1 3 [7, 1]).dest = (settle (linkHeard .up full)).net.address ∧ (readBack 0 1 3 [7, 1]).kind = 3 ∧
         16 ≤ (settle (linkHeard .up full)).upNormalOccupancy) ∧
      checkRun (frame 0 9 7 []) = some (readBack 0 9 7 []) ∧
      0 ≠ (settle (linkHeard .down up)).net.address ∧ 9 ≠ (settle (linkHeard .down up)).net.address := by decide +kernel

/-- Good telegrams that no block takes: an unknown kind, a SAMPLE to one station, a malformed broadcast SAMPLE, a malformed OUTPUT,
an OUTPUT of an unowned channel, an OUTPUT from downstream. -/
theorem witness_passesOn (u : State) :
    passesOn .up (readBack 0 9 7 []) u ∧ passesOn .down (readBack 21 9 1 [0, 0, 0, 1]) u ∧
      passesOn .down (readBack 21 63 1 [0, 0]) u ∧ passesOn .up (readBack 0 30 2 [1, 2]) u ∧
      passesOn .up (readBack 0 30 2 [2, 0, 5]) (mapped .ready) ∧ passesOn .down (readBack 22 30 2 [1, 2, 88]) u :=
  ⟨.inl ⟨by decide, by decide⟩, .inr (.inl ⟨rfl, .inl (by decide)⟩), .inr (.inl ⟨rfl, .inr (by decide)⟩),
    .inr (.inr ⟨rfl, .inr (.inl (by decide))⟩),
    .inr (.inr ⟨rfl, .inr (.inr ⟨[(2, 5)], by decide +kernel, fun x hx f => by
      cases List.mem_singleton.mp hx; cases f <;> decide +kernel⟩)⟩), .inr (.inr ⟨rfl, .inl rfl⟩)⟩
theorem witness_sampleTaken :
    let run := frame 21 63 1 ([2, 0] ++ be 2 4660 ++ [5, 0, 1])
    let u := settle (linkHeard .down amplified)
    checkRun run = some (readBack 21 63 1 ([2, 0] ++ be 2 4660 ++ [5, 0, 1])) ∧
      readSample ([2, 0] ++ be 2 4660 ++ [5, 0, 1]) = some (2, [(0, 4660), (5, 1)]) ∧
      21 ≠ u.net.address ∧ u.net.address ≤ 62 ∧ entryMatched u 21 0 = some 4 ∧ entryMatched u 21 5 = none := by decide +kernel
theorem test_node_fault_and_an_unmatched_pair :
    let s : State := { amplified with net.upTx := some [], tab.output := State.reset.tab.output.set 6 ⟨21, 0, true⟩ }
    let t := after (.telegramReceived .down (frame 21 63 1 ([2, 0] ++ be 2 4660 ++ [5, 0, 1]))) s
    t.nodeFault .feeder = true ∧ (t.alm.records.map fun r => (r.kind, r.source, r.value)) = [(.nodeFault, 6, some 21)] ∧
      t.net.upFifo.length = 1 := by decide +kernel
theorem witness_arrivalTables : 4 < 5 ∧ State.reset.heat.loops.length = 5 := by decide +kernel
theorem test_feed_attempt_begins_at_level_low :
    let s := withL 27 380 (withL 30 470 { feeding with pot.feeder := .idle, pot.feedTimer := none, pot.baseline := none })
    let t := handle (.delivery .potLevel none (some 380)) s
    t.pot.feeder = .feeding ∧ t.pot.baseline = some 380 ∧ t.pot.feedTimer = some ⟨0, 30000⟩ ∧ t.pot.feederCmd = 600 := by
  decide +kernel

theorem test_level_report_comes_before_its_value :
    let s := withL 27 380 (withL 30 470 { feeding with
      pot.feeder := .off, pot.sensor := .silent, pot.feedTimer := none, pot.baseline := none, pot.feedDrive := 0 })
    let t := handle (.delivery .potLevel (some ⟨false, false, false⟩) (some 380)) s
    t.pot.sensor = .good ∧ t.pot.feeder = .feeding ∧ t.pot.baseline = some 380 := by decide +kernel

/-- Loop 3 of 4.10 in a line state. -/
def heated (st : LineState) (c : LoopCtx) : State :=
  { State.reset with
    time := 1000, line.state := st, heat.loops := State.reset.heat.loops.set 2 c
    tab.loop := State.reset.tab.loop.set 2 [256, 40, 800, 20, 50, 1, 4000] }

theorem test_entry_into_active_presets_the_loop :
    let s := withL 20 950 (heated .ready { target := 700, setpoint := 30, integrator := 5, lastTemp := some 1105, satHigh := true })
    let c := (deriveLoop 2 s).loopCtx 2
    c.state = .active ∧ c.target = 950 ∧ c.setpoint = 1105 ∧ c.integrator = 0 ∧ c.satHigh = false ∧ c.duty = 0 := by
  decide +kernel
theorem witness_heatArrival :
    let s := heated .ready climbing
    let m := heated .service { state := .manual, manual := some 300, duty := 300 }
    (s.heat.loops.length = 5 ∧ (s.loopCtx 2).state = s.derivedLoopState 2 ∧ (1105 : Int) ≤ s.K 2 6 ∧
      (s.loopCtx 2).causes.overtemp = false ∧ (s.loopCtx 2).state = .active) ∧
      ((m.loopCtx 2).state = m.derivedLoopState 2 ∧ (m.loopCtx 2).state = .manual) ∧
      (State.reset.loopCtx 0).state = State.reset.derivedLoopState 0 := by decide +kernel
theorem witness_heatArrival_ends_silence :
    let s := heated .ready { state := .fault, causes := { silent := true } }
    let c := s.loopCtx 2
    c.state = .fault ∧ (1105 : Int) ≤ s.K 2 6 ∧
      (s.setLoop 2 { c with causes := causesReported (some ⟨false, false, false⟩) c.causes }).derivedLoopState 2 = .active := by
  decide +kernel
theorem test_arrival_runs_the_computation :
    let t := after (.telegramReceived .down (frame 21 63 1 ([0, 0] ++ be 2 1105)))
      { heated .ready climbing with
        tab.channel := State.reset.tab.channel.set 4 ⟨21, 0, .zoneTemp3, 1024, 0, false, 0⟩
        tab.output := State.reset.tab.output.set 2 ⟨30, 0, true⟩, net.downTx := some [] }
    (t.loopCtx 2).duty = 259 ∧ t.net.downSlots = [(.heat3, 259)] := by decide +kernel
theorem witness_silenceAndReports :
    State.reset.heat.loops.length = 5 ∧ State.reset.pot.jam = false ∧ (⟨true, false, true⟩ : Report).fault = true ∧
      feeding.pot.feeder = .feeding ∧ feeding.pot.jam = false ∧ (⟨false, false, false⟩ : Report).begins = false ∧
      State.reset.flux.status ≠ .low ∧ ({ State.reset with flux.status := .low } : State).flux.status = .low := by decide +kernel
theorem witness_fluxTables : State.reset.flux.eligible = false := rfl

/-- One board of row 3 in the wave's reach, its trail past the wave and its entry 700 ms ago, dwell window 0 to 600. -/
def atWave : State :=
  withL 12 100 { State.reset with
    time := 1700, trk.position := 150
    tab.recipe := State.reset.tab.recipe.set 3 [0, 0, 0, 0, 0, 0, 0, 0, 0, 0, 0, 720, 10, 80, 0, 600]
    trk.track := [{ board 4 0 (some 40) with recipe := some 3, waveEntry := some 1000 }] }

theorem test_gate_opens_at_the_wave : (evalGate atWave).pot.gateBoard = some 4 := by decide +kernel
theorem test_dwell_is_measured :
    let t := waveCrossings { atWave with trk.position := 140 }
    (t.trk.track.map fun r => (r.dwell, r.flags.dwellOut)) = [(some 700, true)] ∧
      t.events = [.raise .dwellOut 4 (some 700)] := by decide +kernel
theorem witness_outputOwned :
    let u := settle (linkHeard .up (mapped .ready))
    checkRun pumpOutput = some (readBack 0 30 2 [1, 2, 88]) ∧ readOutput [1, 2, 88] = some [(1, 600)] ∧
      0 ≠ u.net.address ∧ 30 ≠ u.net.address ∧ ownersInOrder u 30 [(1, 600)] = [.wavePump] := by decide +kernel
theorem test_unbound_entry_is_removed_at_its_grant :
    let s : State := { mapped .ready with net.downUrgent := [.feeder, .wavePump], net.downSlots := [(.feeder, 3), (.heatPot, 3)] }
    let t := after (.telegramBoundary .down) s
    t.net.downUrgent = [] ∧ t.net.downTx = some (outputOf s .wavePump 0) ∧
      (after (.telegramBoundary .down) t).net.downTx = some (outputOf s .heatPot 3) := by decide +kernel

/-! Directives. -/

theorem witness_accepts : Accepts boss 0 up := ⟨rfl, rfl, by decide, by decide, rfl, by decide, rfl⟩
theorem witness_writeRunValues :
    Accepts boss 0 ownRow ∧ ownRow.ldr.cursors.getD 0 none = some ⟨6, 0, 3, 0, 1, false, 0, 0⟩ ∧
      up.ldr.cursors.getD 0 none = none :=
  ⟨⟨rfl, rfl, by decide, by decide, rfl, by decide, rfl⟩, rfl, rfl⟩
theorem witness_readsAnswer : ∀ v, (some 2147483647 : Option Int) = some v → -2147483648 ≤ v ∧ v ≤ 2147483647 :=
  fun v h => by cases h; decide
theorem witness_readStatus :
    (statusImage 0 7 (taken up)).isSome = true ∧ (7 : Nat) < (8 : Byte).toNat ∧ (7 : Byte).toNat ≤ 7 ∧ (1 : Byte) ≠ 0 := by
  decide +kernel
theorem witness_writeRunRecipe :
    up.ldr.fresh = List.replicate 4 false ∧ up.ldr.cursors.getD 0 none = none ∧ Accepts boss 0 loading ∧
      loading.ldr.fresh = List.replicate 4 false ∧
      loading.ldr.cursors.getD 0 none = some ⟨0, 2, 6, 8, 8, true, 2, 8⟩ :=
  ⟨rfl, rfl, ⟨rfl, rfl, by decide, by decide, rfl, by decide, rfl⟩, rfl, rfl⟩
theorem witness_writeRunKeeps :
    0 < loading.trk.pins.getD (4 : Row).val 0 ∧
      (let s : State := { loading with line.state := .ready }
       s.line.state ≠ .idle ∧ s.line.state ≠ .service ∧ s.events = [] ∧ s.net.upLink = true) ∧
      (let s : State := { up with tab.station := [⟨some 0, .operate⟩, {}, {}, {}] }
       s.requestingEntry (0 : Byte).toNat = some 0 ∧ (s.tab.station.getD 0 {}).cls = .operate) := by decide +kernel
theorem witness_purgeTrack :
    up.line.state = .idle ∧ Accepts boss 0 { up with line.state := .ready } :=
  ⟨rfl, ⟨rfl, rfl, by decide, by decide, rfl, by decide, rfl⟩⟩
theorem witness_manualOutputs : (4 : Nat) < 5 ∧ 5 ≤ (5 : Byte).toNat := by decide
theorem witness_lineRestart_stopped :
    (overheated.tab.station.getD 0 {}).cls = .service ∧ overheated.line.state = .stopped ∧
      overheated.net.upNormal.length < 15 ∧ Accepts boss 0 overheated :=
  ⟨rfl, rfl, by decide, ⟨rfl, rfl, by decide, by decide, rfl, by decide, rfl⟩⟩
theorem witness_lineRestart :
    (up.tab.station.getD 0 {}).cls = .service ∧ up.line.state = .idle ∧
      Accepts boss 0 { up with line.state := .ready } ∧
      Accepts boss 0 { up with tab.station := [⟨some 0, .operate⟩, {}, {}, {}] } :=
  ⟨rfl, rfl, ⟨rfl, rfl, by decide, by decide, rfl, by decide, rfl⟩, ⟨rfl, rfl, by decide, by decide, rfl, by decide, rfl⟩⟩
theorem witness_requestTelegram :
    (Instr.readStatus boss 3 0).wellFormed = true ∧ requestOf (.readStatus boss 3 0) = some (boss, [2, 3, 0]) ∧
      up.net.address ≤ 62 := by decide
theorem witness_requestTelegram_list :
    let t := readBack 0 1 3 [7, 1]
    let u := settle (linkHeard .up up)
    checkRun goodRun = some t ∧ t.source ≠ u.net.address ∧ t.dest = u.net.address ∧ t.kind = 3 ∧ u.upNormalOccupancy < 16 ∧
      18 < (127 : Byte).toNat % 128 ∧ (13 : Byte).toNat % 128 = 13 ∧ [5, 0].length < operandCount 13 [5, 0] ∧
      operandCount 13 [5, 0, 9] ≤ [5, 0, 9].length := by decide +kernel
theorem test_list_with_an_unknown_code :
    (after (.telegramReceived .up (frame 0 1 3 [7, 0x81, 0xFF, 1])) up).net.upTx =
      some (frame 1 0 4 [7, 0, 0x0E, 0x54, 1, 16, 8, 32, 5, 32, 8, 24, 4, 4]) := by decide +kernel
theorem test_refusal_skips_the_rest :
    (after (.telegramReceived .up (frame 0 1 3 [7, 0x8C, 2, 1])) up).net.upTx = some (frame 1 0 4 [7, 9, 0, 3]) := by
  decide +kernel
theorem test_unlisted_source_and_empty_payload :
    (after (.telegramReceived .up (frame 9 1 3 [7, 0x81, 13])) up).net.upTx = some (frame 1 9 4 [7, 8, 8]) ∧
      (after (.telegramReceived .up (frame 0 1 3 [])) up).net.upTx = some (frame 1 0 4 [0]) := by decide +kernel
theorem witness_onlyDirectives :
    movesLine (.eyeChange true) = false ∧ State.reset.line.state = .idle ∧ State.reset.pending = [] := by decide
theorem witness_otherForms : 1 < (2 : Byte).toNat ∧ 4 < (5 : Byte).toNat ∧ up.net.address ≤ 62 := by decide
theorem test_set_address_second_is_refused :
    (after (.telegramReceived .up (frame 0 1 3 [7, 0x88, 18, 9])) up).net.upTx = some (frame 1 0 4 [7, 0, 9]) := by decide +kernel

/-! Alarms. -/

/-- An alarm record of a kind and source. -/
def alarmOf (k : AlarmKind) (src : Nat) (st : AlarmState) (sev : Severity) : AlarmRecord :=
  { kind := k, source := src, severity := sev, masked := false, state := st, count := 1, first := {}, last := {}, value := none
    lineState := .idle }

/-- A list of records, and no LIST_FULL. -/
def listed (rs : List AlarmRecord) : State := { State.reset with alm.records := rs }

/-- A full list: 24 held records, or 23 and one that may be evicted. -/
def fullList (last : AlarmRecord) : List AlarmRecord := (List.range 23).map (fun i => alarmOf .sensorFault i .active .drain) ++ [last]

theorem alarmInv_listed (rs : List AlarmRecord) (h1 : (rs.map fun r => (r.kind, r.source)).Nodup) (h2 : rs.length ≤ 24)
    (h3 : ∀ r ∈ rs, r.kind ≠ .listFull) : AlarmInv (listed rs) := ⟨h1, h2, h3, fun _ h => nomatch h⟩

theorem witness_alarmLifecycle :
    AlarmInv (listed [alarmOf .overtemp 3 .active .stop]) ∧ AlarmKind.overtemp ≠ .listFull ∧
      (listed [alarmOf .overtemp 3 .active .stop]).alarmFor .overtemp 3 = some (alarmOf .overtemp 3 .active .stop) :=
  ⟨alarmInv_listed _ (by decide) (by decide) (by decide), by decide, by decide +kernel⟩
theorem witness_alarmNewRecord :
    (AlarmInv State.reset ∧ State.reset.alarmFor .heatFail 1 = none ∧ State.reset.alm.records.length < 24) ∧
      (let s := listed (fullList (alarmOf .overlength 9 .cleared .warn))
       AlarmInv s ∧ s.alarmFor .heatFail 1 = none ∧ s.alm.records.length = 24) ∧
      (let s := listed (fullList (alarmOf .overtemp 1 .active .stop))
       AlarmInv s ∧ s.alarmFor .heatFail 1 = none ∧ s.alm.records.length = 24) :=
by
  refine ⟨⟨alarmInv_listed [] ?_ ?_ ?_, ?_⟩, ⟨alarmInv_listed _ ?_ ?_ ?_, ?_⟩, alarmInv_listed _ ?_ ?_ ?_, ?_⟩ <;>
    decide +kernel

/-- 21 held records, the last CLEARED, and LIST_FULL ACTIVE or ACKED. -/
def draining (st : AlarmState) : State :=
  { listed (((List.range 20).map fun i => alarmOf .sensorFault i .active .drain) ++ [alarmOf .overlength 9 .cleared .warn]) with
    alm.listFull := some { alarmOf .listFull 0 st .drain with value := some 4 } }

theorem witness_listFullAndNotices :
    AlarmInv (draining .active) ∧ (draining .active).alarmFor .overlength 9 = some (alarmOf .overlength 9 .cleared .warn) ∧
      (draining .acked).alm.listFull = some { alarmOf .listFull 0 .acked .drain with value := some 4 } ∧
      (draining .active).alarmFor .sensorFault 3 = some (alarmOf .sensorFault 3 .active .drain) ∧
      (draining .active).alarmFor .heatFail 1 = none ∧ (draining .active).alm.records.length < 24 :=
  ⟨⟨by decide, by decide, by decide, fun _ h => by cases h; decide⟩, by decide +kernel, rfl, by decide +kernel,
    by decide +kernel, by decide⟩
theorem test_list_full_clears_at_twenty :
    let t := after (.acknowledge boss 10 9) { draining .active with net.upLink := true, net.upTx := some [] }
    t.alm.records.length = 20 ∧ (t.alm.listFull.map fun f => f.state) = some .cleared ∧ t.net.upUrgent.length = 1 := by
  decide +kernel

/-! Invariants: states other than State.reset that meet them, with a command waiting. -/

/-- One open board at the eye, and its trailing edge waiting. -/
def oneBoard : State :=
  { State.reset with
    trk.track := [board 6 0 none], trk.nextTag := 7, trk.entered := 1, trk.eyeBlocked := true, pending := [.eyeChange false] }

theorem witness_trackerInv : TrackerInv oneBoard where
  track := by decide +kernel
  announces := by decide +kernel
  pins := by unfold PinsRight; decide +kernel
  counters := by unfold CountersRight; decide +kernel
  tags := by unfold TagsRight; decide +kernel
  trails := ⟨by decide +kernel, by decide +kernel, fun _ h => nomatch h⟩

/-- READY with every loop disabled; a clock tick waiting. -/
def quietReady : State :=
  { State.reset with
    line.state := .ready, pot.feeder := .idle, exh.demand := true, exh.fan := 1000, pins.lampG := .steady, pins.permit := true
    pending := [.secondTimerExpiry] }

theorem heatInv_disabled (s : State) (five : s.heat.loops.length = 5) (rest : ∀ i, i < 5 → s.loopCtx i = {})
    (off : ∀ i, i < 5 → s.K i 5 = 0) : HeatInv s where
  five := five
  each := fun i hi => by
    have h := rest i hi
    have hk := off i hi
    exact ⟨by simp [State.derivedLoopState, h, hk], by simp [h], by simp [h], by simp [h], by simp [h], by simp [h]⟩
theorem witness_heatInv : HeatInv quietReady := heatInv_disabled _ rfl (by decide +kernel) (by decide +kernel)
theorem witness_lineRestart_heat : HeatInv up ∧ Accepts boss 0 up :=
  ⟨heatInv_disabled _ rfl (by decide +kernel) (by decide +kernel), witness_accepts⟩
theorem test_overtemp_report_removes_the_latch :
    let s := heated .ready { state := .fault, causes := { latch := true } }
    let t := handle (.overtempRemoved 2) s
    (s.loopCtx 2).causes.latch = true ∧ (t.loopCtx 2).causes.latch = false ∧ (t.loopCtx 2).state = .active := by decide +kernel
theorem witness_potInv : PotInv quietReady := by constructor <;> decide +kernel
theorem witness_exhaustInv : ExhaustInv quietReady := by constructor <;> decide +kernel
theorem witness_linesInv : LinesInv { quietReady with flux.status := .normal, flux.eligible := true } := by
  constructor <;> decide +kernel
theorem witness_linesInv_stop :
    let r := alarmOf .overtemp 3 .active .stop
    LinesInv { listed [r] with
      alm.holding := some .stop, line.holding := some .stop, line.state := .stopped, pins.hold := true, pins.trip := true
      pins.lampR := .steady } := by
  constructor <;> decide +kernel
theorem witness_queueInv :
    QueueInv { mapped .ready with net.downUrgent := [.wavePump], net.downSlots := [(.heatPot, 3)] } := by
  constructor <;> decide +kernel
theorem witness_alarmInv : AlarmInv (listed [alarmOf .overtemp 3 .active .stop]) := witness_alarmLifecycle.1
theorem witness_steps : step oneBoard = .next (after (.eyeChange false) { oneBoard with pending := [] }) := rfl

end Sys2Proof.Tests
end

section
/-! SUPPORT. What no internal event changes. Every block leaves `still` alone, and the stall timer too; only the line
controller's HOLD sets the stall timer to 0 (R20). -/
namespace Sys2Proof.Proofs
open Sys2Proof Sys2Proof.Machine Sys2Proof.Safety

/-- `still` with the stall timer as it stands: what every block but the line controller leaves alone. -/
def stillTimed (s : State) : State :=
  { still s with trk := { s.trk with track := s.trk.track.map boardCore } }

/-- `still` reads no more than `stillTimed`. -/
theorem still_of_stillTimed {s t : State} (h : stillTimed t = stillTimed s) : still t = still s :=
  congrArg (fun x => { x with trk := { x.trk with stallTimer := 0 } }) h

theorem stallTimer_of_stillTimed {s t : State} (h : stillTimed t = stillTimed s) :
    t.trk.stallTimer = s.trk.stallTimer :=
  congrArg (fun x => x.trk.stallTimer) h

/-! Updates it does not see. -/

@[simp] theorem stillTimed_update (s : State) (flux : Flux) (heat : Heat) (pot : Pot) (exh : Exhaust) (alm : Alarm)
    (pins : Pins) (events : List Event) :
    stillTimed { s with flux, heat, pot, exh, alm, pins, events } = stillTimed s := rfl
@[simp] theorem stillTimed_ite (c : Prop) [Decidable c] (s t : State) :
    stillTimed (if c then s else t) = if c then stillTimed s else stillTimed t := apply_ite _ _ _ _
@[simp] theorem stillTimed_post (s : State) (e : Event) : stillTimed (s.post e) = stillTimed s := rfl
@[simp] theorem stillTimed_raise (s : State) (k : AlarmKind) (n : Nat) (v : Option Int) :
    stillTimed (s.raise k n v) = stillTimed s := rfl
@[simp] theorem stillTimed_clear (s : State) (k : AlarmKind) (n : Nat) : stillTimed (s.clear k n) = stillTimed s := rfl
@[simp] theorem stillTimed_clearIf (s : State) (b : Bool) (k : AlarmKind) (n : Nat) :
    stillTimed (s.clearIf b k n) = stillTimed s := by
  cases b <;> rfl

/-- Rewriting records in what other blocks report into them is not seen. -/
theorem stillTimed_mapTrack (s : State) {f : BoardRecord → BoardRecord} (h : ∀ r, boardCore (f r) = boardCore r) :
    stillTimed (s.mapTrack f) = stillTimed s := by
  have hmap : (s.trk.track.map f).map boardCore = s.trk.track.map boardCore := by
    simp [Function.comp_def, h]
  simp only [stillTimed, still, State.mapTrack, hmap]

/-- A fold of steps that are not seen is not seen. -/
theorem stillTimed_foldl {α : Type} {f : State → α → State} (h : ∀ s a, stillTimed (f s a) = stillTimed s)
    (l : List α) (s : State) : stillTimed (l.foldl f s) = stillTimed s := by
  induction l generalizing s with
  | nil => rfl
  | cons a l ih => exact (ih _).trans (h s a)

theorem stillTimed_forLoops {f : Nat → State → State} (h : ∀ i s, stillTimed (f i s) = stillTimed s) (s : State) :
    stillTimed (forLoops f s) = stillTimed s :=
  stillTimed_foldl (fun s i => h i s) _ s

/-! The originate queues and the arbiters. -/

theorem stillTimed_grantSlot {s s1 : State} {f : OutFn} {v : Nat} {rest : List (OutFn × Nat)} {sent : Bool}
    (h : grantSlot s f v rest = (s1, sent)) : stillTimed s1 = stillTimed s := by
  unfold grantSlot at h
  split at h <;> cases h <;> rfl

theorem stillTimed_arbitrateDown (n : Nat) (s : State) : stillTimed (arbitrateDown n s) = stillTimed s := by
  induction n generalizing s with
  | zero => rfl
  | succ n ih =>
    unfold arbitrateDown
    split
    case h_1 f rest _ =>
      split
      · rfl
      · exact ih _
    case h_2 =>
      split
      case h_1 =>
        split
        · next h => exact stillTimed_grantSlot h
        · next h => exact (ih _).trans (stillTimed_grantSlot h)
      case h_2 => rfl
      case h_3 => rfl
      case h_4 =>
        split
        · next h => exact stillTimed_grantSlot h
        · next h => exact (ih _).trans (stillTimed_grantSlot h)
      case h_5 => rfl

@[simp] theorem stillTimed_wakeDown (s : State) : stillTimed s.wakeDown = stillTimed s := by
  unfold State.wakeDown
  split
  · rfl
  · exact stillTimed_arbitrateDown _ s

@[simp] theorem stillTimed_wakeUp (s : State) : stillTimed s.wakeUp = stillTimed s := by
  unfold State.wakeUp arbitrateUp
  split
  · rfl
  · split
    · rfl
    · split <;> rfl

@[simp] theorem stillTimed_offerUrgentZero (s : State) (f : OutFn) :
    stillTimed (s.offerUrgentZero f) = stillTimed s := stillTimed_wakeDown _
@[simp] theorem stillTimed_commandZero (s : State) (f : OutFn) : stillTimed (s.commandZero f) = stillTimed s := by
  simp [State.commandZero]
@[simp] theorem stillTimed_commandValue (s : State) (f : OutFn) (v : Nat) :
    stillTimed (s.commandValue f v) = stillTimed s := by
  unfold State.commandValue
  split
  · exact stillTimed_wakeDown _
  · rfl
@[simp] theorem stillTimed_offerUpNormal (s : State) (t : Telegram) :
    stillTimed (s.offerUpNormal t) = stillTimed s := by
  unfold State.offerUpNormal
  split
  · rfl
  · split
    · rfl
    · exact stillTimed_wakeUp _
@[simp] theorem stillTimed_offerUpUrgent (s : State) (t : Telegram) :
    stillTimed (s.offerUpUrgent t) = stillTimed s := by
  unfold State.offerUpUrgent
  split
  · rfl
  · split
    · exact stillTimed_offerUpNormal s t
    · exact stillTimed_wakeUp _

/-! The alarm unit. -/

@[simp] theorem stillTimed_offerAlarmNotice (r : AlarmRecord) (t : Telegram) (s : State) :
    stillTimed (offerAlarmNotice r t s) = stillTimed s := by
  unfold offerAlarmNotice
  split
  · rfl
  · split <;> simp
@[simp] theorem stillTimed_evaluateHolding (s : State) : stillTimed (evaluateHolding s) = stillTimed s := by
  simp [evaluateHolding]
@[simp] theorem stillTimed_removalReport (r : AlarmRecord) (s : State) :
    stillTimed (removalReport r s) = stillTimed s := by
  unfold removalReport
  split <;> rfl
@[simp] theorem stillTimed_creationReport (k : AlarmKind) (s : State) :
    stillTimed (creationReport k s) = stillTimed s := by
  simp [creationReport]
@[simp] theorem stillTimed_testListFull (s : State) : stillTimed (testListFull s) = stillTimed s := by
  unfold testListFull
  split
  · rfl
  · split
    · rfl
    · split <;> simp
@[simp] theorem stillTimed_removeRecord (r : AlarmRecord) (s : State) : stillTimed (removeRecord r s) = stillTimed s := by
  simp [removeRecord]
@[simp] theorem stillTimed_replaceRecord (r : AlarmRecord) (s : State) :
    stillTimed (replaceRecord r s) = stillTimed s := rfl
@[simp] theorem stillTimed_appendRecord (r : AlarmRecord) (s : State) : stillTimed (appendRecord r s) = stillTimed s := by
  simp [appendRecord]
@[simp] theorem stillTimed_takeUpListFull (k : AlarmKind) (sev : Severity) (s : State) :
    stillTimed (takeUpListFull k sev s) = stillTimed s := by
  unfold takeUpListFull
  split <;> simp
@[simp] theorem stillTimed_alarmRaise (k : AlarmKind) (src : Nat) (v : Option Int) (s : State) :
    stillTimed (alarmRaise k src v s) = stillTimed s := by
  unfold alarmRaise takeRaise
  split
  · rfl
  · split
    · simp
    · split
      · simp
      · split <;> simp
@[simp] theorem stillTimed_alarmClear (k : AlarmKind) (src : Nat) (s : State) :
    stillTimed (alarmClear k src s) = stillTimed s := by
  unfold alarmClear takeClear
  split
  · rfl
  · split
    · split <;> simp
    · simp

/-! The exhaust monitor. -/

@[simp] theorem stillTimed_deriveFan (s : State) : stillTimed (deriveFan s) = stillTimed s := by
  simp [deriveFan]
@[simp] theorem stillTimed_applyFlow (s : State) : stillTimed (applyFlow s) = stillTimed s := by
  simp [applyFlow, resetFlow]
@[simp] theorem stillTimed_deriveDemand (s : State) : stillTimed (deriveDemand s) = stillTimed s := by
  simp [deriveDemand]
@[simp] theorem stillTimed_exhaustOnLine (old : LineState) (s : State) :
    stillTimed (exhaustOnLine old s) = stillTimed s := by
  simp [exhaustOnLine]
@[simp] theorem stillTimed_runOnExpire (s : State) : stillTimed (runOnExpire s) = stillTimed s := by
  simp [runOnExpire]
@[simp] theorem stillTimed_flowExpire (s : State) : stillTimed (flowExpire s) = stillTimed s := by
  unfold flowExpire
  split <;> rfl
@[simp] theorem stillTimed_exhaustRefresh (s : State) : stillTimed (exhaustRefresh s) = stillTimed s := by
  simp [exhaustRefresh]
@[simp] theorem stillTimed_flowDelivery (r : Option Report) (v : Option Int) (s : State) :
    stillTimed (flowDelivery r v s) = stillTimed s := by
  unfold flowDelivery
  split <;> simp [flowArrival, flowReport]
@[simp] theorem stillTimed_dpDelivery (r : Option Report) (v : Option Int) (s : State) :
    stillTimed (dpDelivery r v s) = stillTimed s := by
  unfold dpDelivery
  split <;> simp [dpArrival, dpReport]

/-! The heat controller. -/

@[simp] theorem stillTimed_setLoop (s : State) (i : Nat) (c : LoopCtx) :
    stillTimed (s.setLoop i c) = stillTimed s := rfl
@[simp] theorem stillTimed_setManual (i : Nat) (m : Option Nat) (s : State) :
    stillTimed (setManual i m s) = stillTimed s := by
  simp [setManual]
@[simp] theorem stillTimed_sendDuty (i v : Nat) (s : State) : stillTimed (sendDuty i v s) = stillTimed s := by
  simp [sendDuty]
@[simp] theorem stillTimed_sendZero (i : Nat) (s : State) : stillTimed (sendZero i s) = stillTimed s := by
  simp [sendZero]
@[simp] theorem stillTimed_setMolten (b : Bool) (s : State) : stillTimed (setMolten b s) = stillTimed s := by
  simp [setMolten]
@[simp] theorem stillTimed_evalInBand (i : Nat) (s : State) : stillTimed (evalInBand i s) = stillTimed s := by
  simp [evalInBand]
@[simp] theorem stillTimed_endHeatFail (i : Nat) (s : State) : stillTimed (endHeatFail i s) = stillTimed s := by
  simp [endHeatFail]
@[simp] theorem stillTimed_testLoop (i : Nat) (s : State) : stillTimed (testLoop i s) = stillTimed s := by
  simp [testLoop, heatFailTest]
@[simp] theorem stillTimed_writeTarget (i v : Nat) (s : State) : stillTimed (writeTarget i v s) = stillTimed s := by
  simp [writeTarget]
@[simp] theorem stillTimed_evalTarget (i : Nat) (s : State) : stillTimed (evalTarget i s) = stillTimed s := by
  simp [evalTarget, setTarget]
@[simp] theorem stillTimed_evalTargets (s : State) : stillTimed (evalTargets s) = stillTimed s :=
  stillTimed_forLoops stillTimed_evalTarget s
@[simp] theorem stillTimed_enterRest (i : Nat) (st : LoopState) (s : State) :
    stillTimed (enterRest i st s) = stillTimed s := by
  simp [enterRest]
@[simp] theorem stillTimed_enterActive (i : Nat) (old : LoopState) (s : State) :
    stillTimed (enterActive i old s) = stillTimed s := by
  simp [enterActive]
@[simp] theorem stillTimed_enterManual (i : Nat) (s : State) : stillTimed (enterManual i s) = stillTimed s := by
  simp [enterManual]
@[simp] theorem stillTimed_deriveLoop (i : Nat) (s : State) : stillTimed (deriveLoop i s) = stillTimed s := by
  unfold deriveLoop
  dsimp only
  split
  · rfl
  · split <;> simp
@[simp] theorem stillTimed_heatOnLine (old : LineState) (s : State) : stillTimed (heatOnLine old s) = stillTimed s := by
  simp [heatOnLine, stillTimed_forLoops]
@[simp] theorem stillTimed_overtempReleased (i : Nat) (s : State) :
    stillTimed (overtempReleased i s) = stillTimed s := by
  simp [overtempReleased]
@[simp] theorem stillTimed_overtempTest (i : Nat) (v : Int) (s : State) :
    stillTimed (overtempTest i v s) = stillTimed s := by
  simp [overtempTest]
@[simp] theorem stillTimed_applyReport (i : Nat) (r : Option Report) (s : State) :
    stillTimed (applyReport i r s) = stillTimed s := by
  cases r <;> rfl
@[simp] theorem stillTimed_passTemp (i : Nat) (v : Int) (s : State) : stillTimed (passTemp i v s) = stillTimed s := by
  unfold passTemp
  split
  · rfl
  · refine stillTimed_mapTrack s fun r => ?_
    split <;> rfl
@[simp] theorem stillTimed_driveLoop (i : Nat) (v : Int) (s : State) : stillTimed (driveLoop i v s) = stillTimed s := by
  unfold driveLoop
  split <;> simp [compute]
@[simp] theorem stillTimed_heatDelivery (i : Nat) (r : Option Report) (v : Option Int) (s : State) :
    stillTimed (heatDelivery i r v s) = stillTimed s := by
  cases v <;> simp [heatDelivery, tempArrival]
@[simp] theorem stillTimed_heatFailExpire (i : Nat) (s : State) : stillTimed (heatFailExpire i s) = stillTimed s := rfl
@[simp] theorem stillTimed_idleExpire (i : Nat) (s : State) : stillTimed (idleExpire i s) = stillTimed s := by
  simp [idleExpire]

/-! The pot controller. -/

@[simp] theorem stillTimed_offerChange (s : State) (f : OutFn) (v : Nat) :
    stillTimed (s.offerChange f v) = stillTimed s := by
  simp [State.offerChange]
@[simp] theorem stillTimed_deriveFeederCmd (s : State) : stillTimed (deriveFeederCmd s) = stillTimed s := by
  simp [deriveFeederCmd]
@[simp] theorem stillTimed_setDrive (v : Nat) (s : State) : stillTimed (setDrive v s) = stillTimed s := by
  simp [setDrive]
@[simp] theorem stillTimed_endAttempt (f : FeederState) (s : State) : stillTimed (endAttempt f s) = stillTimed s := by
  simp [endAttempt]
@[simp] theorem stillTimed_deriveFeeder (s : State) : stillTimed (deriveFeeder s) = stillTimed s := by
  unfold deriveFeeder
  split
  · rfl
  · split <;> simp
@[simp] theorem stillTimed_interruptWave (s : State) : stillTimed (interruptWave s) = stillTimed s := by
  refine stillTimed_mapTrack s fun r => ?_
  split <;> rfl
@[simp] theorem stillTimed_derivePump (s : State) : stillTimed (derivePump s) = stillTimed s := by
  simp [derivePump]
@[simp] theorem stillTimed_feederOnGate (b : Bool) (s : State) : stillTimed (feederOnGate b s) = stillTimed s := by
  unfold feederOnGate
  split <;> simp
@[simp] theorem stillTimed_evalGate (s : State) : stillTimed (evalGate s) = stillTimed s := by
  simp [evalGate]

theorem boardCore_leadCrossing (s : State) (r : BoardRecord) : boardCore (leadCrossing s r) = boardCore r := by
  unfold leadCrossing
  split <;> rfl
theorem boardCore_trailCrossing (s : State) (r : BoardRecord) : boardCore (trailCrossing s r) = boardCore r := by
  unfold trailCrossing
  split <;> rfl

@[simp] theorem stillTimed_raiseDwellOut (r : BoardRecord) (s : State) :
    stillTimed (raiseDwellOut r s) = stillTimed s := by
  unfold raiseDwellOut
  split
  · rfl
  · simp
@[simp] theorem stillTimed_waveCrossings (s : State) : stillTimed (waveCrossings s) = stillTimed s := by
  unfold waveCrossings
  rw [stillTimed_mapTrack _ (boardCore_trailCrossing _), stillTimed_foldl fun t r => stillTimed_raiseDwellOut r t,
    stillTimed_mapTrack _ (boardCore_leadCrossing _)]
@[simp] theorem stillTimed_potOnTrack (s : State) : stillTimed (potOnTrack s) = stillTimed s := by
  simp [potOnTrack]
@[simp] theorem stillTimed_levelTests (v : Nat) (s : State) : stillTimed (levelTests v s) = stillTimed s := by
  simp [levelTests]
@[simp] theorem stillTimed_feederOnLevel (v : Nat) (s : State) : stillTimed (feederOnLevel v s) = stillTimed s := by
  unfold feederOnLevel
  split <;> simp
@[simp] theorem stillTimed_potDelivery (r : Option Report) (v : Option Int) (s : State) :
    stillTimed (potDelivery r v s) = stillTimed s := by
  cases r <;> cases v <;> simp [potDelivery, levelReport, levelArrival]
@[simp] theorem stillTimed_enterJam (s : State) : stillTimed (enterJam s) = stillTimed s := by
  simp [enterJam]
@[simp] theorem stillTimed_restartInterval (s : State) : stillTimed (restartInterval s) = stillTimed s := rfl
@[simp] theorem stillTimed_feedExpire (s : State) : stillTimed (feedExpire s) = stillTimed s := by
  simp [feedExpire]
@[simp] theorem stillTimed_feedJamRelease (s : State) : stillTimed (feedJamRelease s) = stillTimed s := by
  simp [feedJamRelease]
@[simp] theorem stillTimed_takeCriticalRecord (b : Bool) (s : State) :
    stillTimed (takeCriticalRecord b s) = stillTimed s := by
  simp [takeCriticalRecord]
@[simp] theorem stillTimed_potOnLine (old : LineState) (s : State) : stillTimed (potOnLine old s) = stillTimed s := by
  simp [potOnLine]
@[simp] theorem stillTimed_potRefresh (s : State) : stillTimed (potRefresh s) = stillTimed s := by
  simp [potRefresh]

/-! The flux controller. -/

@[simp] theorem stillTimed_driveValve (s : State) : stillTimed (driveValve s) = stillTimed s := by
  simp [driveValve]

theorem boardCore_fluxedRecord (ws : List Window) (valve : Bool) (r : BoardRecord) :
    boardCore (fluxedRecord ws valve r) = boardCore r := by
  unfold fluxedRecord
  split <;> rfl

@[simp] theorem stillTimed_moveFluxStates (s : State) : stillTimed (moveFluxStates s) = stillTimed s :=
  stillTimed_mapTrack s (boardCore_fluxedRecord s.flux.windows s.flux.valveOpen)
@[simp] theorem stillTimed_fluxEvaluate (s : State) : stillTimed (fluxEvaluate s) = stillTimed s := by
  simp [fluxEvaluate, decideBridge, syncWindows]
@[simp] theorem stillTimed_recomputeEligible (s : State) : stillTimed (recomputeEligible s) = stillTimed s := by
  simp [recomputeEligible]
@[simp] theorem stillTimed_fluxOnSpeed (s : State) : stillTimed (fluxOnSpeed s) = stillTimed s := by
  simp [fluxOnSpeed, recomputeLead]
@[simp] theorem stillTimed_enterLow (v : Option Int) (s : State) : stillTimed (enterLow v s) = stillTimed s := rfl
@[simp] theorem stillTimed_pressureStatus (v : Nat) (s : State) : stillTimed (pressureStatus v s) = stillTimed s := by
  simp [pressureStatus]
@[simp] theorem stillTimed_pressureArrival (v : Nat) (s : State) :
    stillTimed (pressureArrival v s) = stillTimed s := by
  simp [pressureArrival]
@[simp] theorem stillTimed_pressureReport (r : Report) (s : State) :
    stillTimed (pressureReport r s) = stillTimed s := by
  simp [pressureReport]
@[simp] theorem stillTimed_pressureDelivery (r : Option Report) (v : Option Int) (s : State) :
    stillTimed (pressureDelivery r v s) = stillTimed s := by
  cases r <;> cases v <;> simp [pressureDelivery]

/-! The traffic filter's and the line controller's own parts. -/

@[simp] theorem stillTimed_filterOnLine (old : LineState) (s : State) :
    stillTimed (filterOnLine old s) = stillTimed s := by
  unfold filterOnLine
  split
  · exact stillTimed_foldl stillTimed_offerUrgentZero _ _
  · rfl
@[simp] theorem stillTimed_changeoverEval (s : State) : stillTimed (changeoverEval s) = stillTimed s := rfl
@[simp] theorem stillTimed_lineOnRecord (appended : Bool) (s : State) :
    stillTimed (lineOnRecord appended s) = stillTimed s := by
  cases appended <;> rfl
@[simp] theorem stillTimed_blocksOnLine (old : LineState) (s : State) :
    stillTimed (blocksOnLine old s) = stillTimed s := by
  simp [blocksOnLine]
@[simp] theorem stillTimed_takeDelivery (q : Quantity) (r : Option Report) (v : Option Int) (s : State) :
    stillTimed (takeDelivery q r v s) = stillTimed s := by
  cases q <;> simp [takeDelivery]

/-! The line controller, which asserts HOLD. -/

/-- A later state has the `still` of an earlier one, and its stall timer or 0. -/
structure LeavesStill (s t : State) : Prop where
  still : still t = still s
  stall : t.trk.stallTimer = s.trk.stallTimer ∨ t.trk.stallTimer = 0

theorem LeavesStill.of_stillTimed {s t : State} (h : stillTimed t = stillTimed s) : LeavesStill s t :=
  ⟨still_of_stillTimed h, .inl (stallTimer_of_stillTimed h)⟩

theorem LeavesStill.refl (s : State) : LeavesStill s s := .of_stillTimed rfl

theorem LeavesStill.trans {s t u : State} (h1 : LeavesStill s t) (h2 : LeavesStill t u) : LeavesStill s u where
  still := h2.still.trans h1.still
  stall := h2.stall.elim (fun e => e ▸ h1.stall) .inr

theorem stillTimed_derivePermit (s : State) : stillTimed (derivePermit s) = stillTimed s := rfl
theorem stillTimed_deriveLamps (s : State) : stillTimed (deriveLamps s) = stillTimed s := rfl

/-- HOLD and its effect on the stall timer (R20, R134). -/
theorem leavesStill_deriveHold (s : State) : LeavesStill s (deriveHold s) where
  still := rfl
  stall := by
    unfold deriveHold
    dsimp only
    split
    · exact .inr rfl
    · exact .inl rfl

theorem leavesStill_changeLine (new : LineState) (cause : LineCause) (s : State) :
    LeavesStill s (changeLine new cause s) := by
  have blocks : LeavesStill s (blocksOnLine s.line.state { s with line.state := new, line.settle := 0 }) :=
    .of_stillTimed (stillTimed_blocksOnLine _ _)
  have lines (t : State) : LeavesStill t (deriveLamps (deriveHold (derivePermit t))) :=
    ((LeavesStill.of_stillTimed (stillTimed_derivePermit t)).trans (leavesStill_deriveHold _)).trans
      (.of_stillTimed (stillTimed_deriveLamps _))
  exact (blocks.trans (lines _)).trans (.of_stillTimed (stillTimed_offerUpNormal _ _))

theorem leavesStill_settleTest (s : State) : LeavesStill s (settleTest s) := by
  unfold settleTest
  split
  · exact .of_stillTimed rfl
  · split
    · exact leavesStill_changeLine _ _ s
    · exact .refl s

theorem leavesStill_enterLine (new : LineState) (cause : LineCause) (s : State) :
    LeavesStill s (enterLine new cause s) := by
  unfold enterLine
  dsimp only
  split
  · exact (leavesStill_changeLine _ _ s).trans (leavesStill_settleTest _)
  · exact leavesStill_changeLine _ _ s

theorem leavesStill_retestSettle (s : State) : LeavesStill s (retestSettle s) := by
  unfold retestSettle
  split
  · exact leavesStill_settleTest s
  · exact .refl s

theorem leavesStill_actOnSeverity (h : Option Severity) (s : State) : LeavesStill s (actOnSeverity h s) := by
  unfold actOnSeverity
  split
  case h_1 =>
    split
    · exact leavesStill_enterLine _ _ s
    · exact .refl s
  case h_2 =>
    split
    · exact leavesStill_enterLine _ _ s
    · exact leavesStill_retestSettle s
  all_goals exact leavesStill_retestSettle s

theorem leavesStill_onInBand (i : Nat) (s : State) : LeavesStill s (onInBand i s) := by
  unfold onInBand
  split
  · exact (leavesStill_retestSettle s).trans (.of_stillTimed rfl)
  · exact leavesStill_retestSettle s

/-! Taking events. -/

/-- No internal event changes `still`, and none sets the stall timer to anything but 0. -/
theorem leavesStill_handle (e : Event) (s : State) : LeavesStill s (handle e s) := by
  cases e with
  | published h w =>
    have lamps : LeavesStill s (deriveLamps { s with line.holding := h, line.warn := w }) :=
      .of_stillTimed (stillTimed_deriveLamps _)
    exact lamps.trans (leavesStill_actOnSeverity h _)
  | inBandChanged i => exact leavesStill_onInBand i s
  | levelStored => exact leavesStill_retestSettle s
  | potMoltenChanged => exact (LeavesStill.of_stillTimed (stillTimed_derivePump s)).trans (leavesStill_retestSettle _)
  | _ =>
    refine .of_stillTimed ?_
    simp [handle, onAdvance, onRecordChange, onAnnounceChange, onTarget, takeValveReport, takeHeaterReport,
      takePumpReport, takeFeederReport]

theorem leavesStill_settle (s : State) : LeavesStill s (settle s) := by
  have mailbox (t : State) (es : List Event) (h : LeavesStill s t) : LeavesStill s { t with events := es } :=
    h.trans (.of_stillTimed (stillTimed_update t t.flux t.heat t.pot t.exh t.alm t.pins es))
  have handled (e : Event) (t : State) (h : LeavesStill s t) : LeavesStill s (handle e t) :=
    h.trans (leavesStill_handle e t)
  exact settle_keeps (P := LeavesStill s) (s := s) mailbox handled (.refl s)

/-- Taking the waiting events leaves `still` alone. -/
theorem still_settle (s : State) : still (settle s) = still s := (leavesStill_settle s).still

/-- A stall timer at 0 stays there while events are taken. -/
theorem settle_stallTimer {s : State} (h : s.trk.stallTimer = 0) : (settle s).trk.stallTimer = 0 :=
  (leavesStill_settle s).stall.elim (fun e => e.trans h) id

end Sys2Proof.Proofs
end

section
/-! SUPPORT. One millisecond of an empty queue (R2): the timers that count, the expiries that come due, and what both leave
alone. -/
namespace Sys2Proof.Proofs
open Sys2Proof Sys2Proof.Machine Sys2Proof.Safety

/-! The timers that count. -/

theorem satSucc_eq_min (limit n : Nat) : satSucc limit n = min limit (n + 1) := by
  unfold satSucc
  split <;> omega

theorem countOn_eq_oneOn (limit t : Nat) : countOn limit t = oneOn limit t := by
  simp only [countOn, oneOn, satSucc_eq_min]

theorem countWhile_eq_ite {b : Bool} {p : Prop} [Decidable p] (h : b = true ↔ p) (limit t : Nat) :
    countWhile b limit t = if p then oneOn limit t else 0 := by
  simp only [countWhile, h, countOn_eq_oneOn]

theorem stallCounts_iff (s : State) : s.stallCounts = true ↔ s.trk.track ≠ [] ∧ s.pins.hold = false := by
  simp [State.stallCounts]

theorem governing_eq_find (s : State) (i : Nat) : s.governing i = s.trk.track.find? (governs s i) := rfl

theorem zoneFree_eq_zoneEmpty (s : State) (i : Nat) : s.zoneFree i = zoneEmpty s i := by
  simp only [State.zoneFree, zoneEmpty, governing_eq_find, ← List.isSome_find?, Option.not_isSome]

theorem idleCounts_iff (s : State) (i : Nat) :
    s.idleCounts i = true ↔ (s.loopCtx i).state = .active ∧ zoneEmpty s i = true := by
  simp [State.idleCounts, zoneFree_eq_zoneEmpty]

theorem heatFailCounts_eq_fallsShort (s : State) (i : Nat) : s.heatFailCounts i = fallsShort s i := by
  unfold State.heatFailCounts fallsShort State.heatFailMs
  cases h : (s.loopCtx i).lastTemp with
  | none => simp [h]
  | some t => simp [h, Bool.and_comm, Bool.and_assoc, Bool.beq_eq_decide_eq]

/-- The band is LOW without a good value, and with one below the minimum (R100). -/
theorem flowBand_low_iff (s : State) : s.flowBand = .low ↔ flowLow s = true := by
  unfold State.flowBand State.flowMin
  split
  case h_1 v hsensor hflow =>
    by_cases hv : v < s.L 36
    · have hlow : flowLow s = true := by simpa [flowLow, hsensor, hflow] using hv
      simp [hv, hlow]
    · have hlow : flowLow s = false := by simpa [flowLow, hsensor, hflow] using Nat.not_lt.mp hv
      rw [if_neg hv, hlow]
      split <;> simp
  case h_2 hbad =>
    have hnone : (if s.exh.flowSensor = .good then s.exh.flow else none) = none := by
      split
      · next hgood => exact Option.eq_none_iff_forall_not_mem.mpr fun v hv => hbad v hgood hv
      · rfl
    simp [flowLow, hnone]

theorem flowCounts_iff (s : State) :
    s.flowCounts = true ↔ s.exh.demand = true ∧ flowLow s = true ∧ 0 < s.L 37 ∧ s.exh.lossTaken = false := by
  simp [State.flowCounts, flowBand_low_iff, State.flowLowMs, and_assoc]

theorem belowDrain_eq (h : Option Severity) : belowDrain h = (h != some .drain && h != some .stop) := by
  rcases h with _ | sv
  · rfl
  · cases sv <;> rfl

theorem settleHolds_eq_settleCondition (s : State) : s.settleHolds = settleCondition s := by
  have five : (List.range 5) = [0, 1, 2, 3, 4] := rfl
  unfold State.settleHolds settleCondition State.levelLow
  rw [belowDrain_eq, five]
  cases h : s.pot.level with
  | none => simp
  | some v => simp only [Option.any_some, Bool.and_assoc]

theorem loopCtx_eq_getElem (s : State) {i : Nat} (h : i < s.heat.loops.length) : s.loopCtx i = s.heat.loops[i] := by
  simp [State.loopCtx, h]

theorem entryCtx_eq_getElem (s : State) {e : Nat} (h : e < s.filt.entries.length) :
    s.entryCtx e = s.filt.entries[e] := by
  simp [State.entryCtx, h]

theorem ageRuns_iff (s : State) (e : Nat) :
    s.ageRuns e = true ↔ (s.entryRow e).quantity ≠ .none ∧ (s.entryRow e).node ≠ 0 ∧ 0 < (s.entryRow e).ageLimit ∧
      (s.entryCtx e).silent = false := by
  simp [State.ageRuns, rowBound, and_assoc]

/-! Each block's timers, counted in a state that agrees with s in what their conditions read. -/

section Blocks
variable {s t : State}

theorem L_congr (htab : t.tab = s.tab) (n : Nat) : t.L n = s.L n := by rw [State.L, State.L, htab]

theorem countTracker_trk (htab : t.tab = s.tab) (htrk : t.trk = s.trk) (hpins : t.pins = s.pins) :
    (countTracker t).trk = (counted s).trk := by
  unfold countTracker counted State.stallMs
  rw [satSucc_eq_min, countWhile_eq_ite (stallCounts_iff t), L_congr htab, htrk, hpins]
  rfl

theorem countSpray_flux (hflux : t.flux = s.flux) : (countSpray t).flux = (counted s).flux := by
  unfold countSpray counted
  rw [satSucc_eq_min, hflux]

theorem zoneEmpty_congr (htab : t.tab = s.tab) (hpos : t.trk.position = s.trk.position)
    (htrack : t.trk.track = s.trk.track) (hann : t.trk.announces = s.trk.announces) (i : Nat) :
    zoneEmpty t i = zoneEmpty s i := by
  have hgov : governs t i = governs s i := by
    funext r
    unfold governs
    rw [L_congr htab, L_congr htab, L_congr htab, hpos]
  unfold zoneEmpty
  rw [hgov, htrack, hann]

theorem loopCtx_congr (hheat : t.heat = s.heat) (i : Nat) : t.loopCtx i = s.loopCtx i := by
  rw [State.loopCtx, State.loopCtx, hheat]

theorem K_congr (htab : t.tab = s.tab) (i n : Nat) : t.K i n = s.K i n := by rw [State.K, State.K, htab]

theorem fallsShort_congr (htab : t.tab = s.tab) (hheat : t.heat = s.heat) (i : Nat) :
    fallsShort t i = fallsShort s i := by
  unfold fallsShort
  rw [L_congr htab, K_congr htab, K_congr htab, loopCtx_congr hheat]

theorem countHeat_heat (htab : t.tab = s.tab) (hpos : t.trk.position = s.trk.position)
    (htrack : t.trk.track = s.trk.track) (hann : t.trk.announces = s.trk.announces) (hheat : t.heat = s.heat) :
    (countHeat t).heat = (counted s).heat := by
  unfold countHeat counted
  rw [hheat]
  refine congrArg (fun l => { s.heat with loops := l }) (List.mapIdx_eq_mapIdx_iff.mpr fun i h => ?_)
  have idle : (decide (i < 4) && t.idleCounts i) = true ↔
      i < 4 ∧ s.heat.loops[i].state = .active ∧ zoneEmpty s i = true := by
    rw [Bool.and_eq_true, decide_eq_true_iff, idleCounts_iff, loopCtx_congr hheat, loopCtx_eq_getElem s h,
      zoneEmpty_congr htab hpos htrack hann]
  unfold countLoop State.idleDelayMs State.heatFailMs
  rw [countWhile_eq_ite idle, countWhile_eq_ite Iff.rfl, heatFailCounts_eq_fallsShort, fallsShort_congr htab hheat,
    L_congr htab, L_congr htab]

theorem countPot_pot (hpot : t.pot = s.pot) : (countPot t).pot = (counted s).pot := by
  unfold countPot counted
  rw [satSucc_eq_min, hpot]
  simp only [countOn_eq_oneOn]
  rfl

theorem countExhaust_exh (htab : t.tab = s.tab) (hexh : t.exh = s.exh) :
    (countExhaust t).exh = (counted s).exh := by
  have hlow : flowLow t = flowLow s := by
    unfold flowLow
    rw [L_congr htab, hexh]
  unfold countExhaust counted State.runOnMs State.flowLowMs
  simp only [flowCounts_iff, satSucc_eq_min, countOn_eq_oneOn, L_congr htab, hlow, hexh]
  rfl

/-- The settle condition reads the loops' in-band flags, none of their timers. -/
theorem countLine_line (htab : t.tab = s.tab) (hline : t.line = s.line)
    (hband : ∀ i, (t.loopCtx i).inBand = (s.loopCtx i).inBand) (hmolten : t.heat.potMolten = s.heat.potMolten)
    (hlevel : t.pot.level = s.pot.level) : (countLine t).line = (counted s).line := by
  have hsettle : settleCondition t = settleCondition s := by
    unfold settleCondition
    simp only [K_congr htab, L_congr htab, hline, hband, hmolten, hlevel]
  unfold countLine counted State.settleMs
  rw [satSucc_eq_min, countWhile_eq_ite Iff.rfl, settleHolds_eq_settleCondition, hsettle, L_congr htab, hline]
  rfl

theorem countLinks_net (hnet : t.net = s.net) : (countLinks t).net = (counted s).net := by
  unfold countLinks counted
  rw [satSucc_eq_min, satSucc_eq_min, hnet]
  rfl

theorem countAges_filt (htab : t.tab = s.tab) (hfilt : t.filt = s.filt) :
    (countAges t).filt = (counted s).filt := by
  unfold countAges counted
  rw [hfilt]
  refine congrArg (fun l => { s.filt with entries := l }) (List.mapIdx_eq_mapIdx_iff.mpr fun e h => ?_)
  have hctx : t.entryCtx e = s.filt.entries[e] := by
    rw [← entryCtx_eq_getElem s h, State.entryCtx, State.entryCtx, hfilt]
  have hrow : t.entryRow e = s.entryRow e := by rw [State.entryRow, State.entryRow, htab]
  simp only [ageRuns_iff, hctx, hrow, satSucc_eq_min]

end Blocks

theorem inBand_countHeat (s : State) (i : Nat) : ((countHeat s).loopCtx i).inBand = (s.loopCtx i).inBand := by
  by_cases h : i < s.heat.loops.length <;> simp [State.loopCtx, countHeat, countLoop, h]

/-- Counting every timer is `counted`: no timer's condition reads what another block counts. -/
theorem countAll_eq_counted (s : State) : countAll s = counted s := by
  let s0 : State := { s with time := s.time + 1 }
  let s1 := countTracker s0
  let s2 := countSpray s1
  let s3 := countHeat s2
  let s4 := countPot s3
  let s5 := countExhaust s4
  let s6 := countLine s5
  let s7 := countLinks s6
  calc countAll s
    _ = { s0 with
          trk := s1.trk, flux := s2.flux, heat := s3.heat, pot := s4.pot, exh := s5.exh, line := s6.line
          net := s7.net, filt := (countAges s7).filt } := rfl
    _ = { s0 with
          trk := (counted s).trk, flux := (counted s).flux, heat := (counted s).heat, pot := (counted s).pot
          exh := (counted s).exh, line := (counted s).line, net := (counted s).net, filt := (counted s).filt } := by
      rw [countTracker_trk (s := s) (t := s0) rfl rfl rfl, countSpray_flux (s := s) (t := s1) rfl,
        countHeat_heat (s := s) (t := s2) rfl rfl rfl rfl rfl, countPot_pot (s := s) (t := s3) rfl,
        countExhaust_exh (s := s) (t := s4) rfl rfl,
        countLine_line (s := s) (t := s5) rfl rfl (inBand_countHeat s2) rfl rfl,
        countLinks_net (s := s) (t := s6) rfl, countAges_filt (s := s) (t := s7) rfl rfl]
    _ = counted s := rfl

end Sys2Proof.Proofs
end

section
/-! SUPPORT. The expiries of one millisecond: each is what its command does where its timer is due (log entries 1, 2). -/
namespace Sys2Proof.Proofs
open Sys2Proof Sys2Proof.Machine Sys2Proof.Safety

/-- A command that acts only where its timer can expire, taken where the timer is due, is the model's due expiry. -/
theorem expires_eq_whenDue {c : Instr} {f : State → State} {armed : Bool} {s : State} (due : Bool)
    (h : exec c s = .next (if armed then settle (f s) else s)) : expires due c s = whenDue (armed && due) f s := by
  unfold expires whenDue
  rw [h]
  cases due <;> cases armed <;> rfl

/-- The same for a command that always acts. -/
theorem expires_eq_whenDue_always {c : Instr} {f : State → State} {s : State} (due : Bool)
    (h : exec c s = .next (settle (f s))) : expires due c s = whenDue due f s :=
  expires_eq_whenDue (armed := true) due h

/-- Counting through the indices of a family is counting through the numbers below its size. -/
theorem foldl_finRange {α : Type} (n : Nat) (f : α → Nat → α) (a : α) :
    (List.finRange n).foldl (fun t i => f t i.val) a = (List.range n).foldl f a := by
  rw [← List.map_coe_finRange_eq_range, List.foldl_map]

/-- A loop in ACTIVE is one of the loops. -/
theorem lt_length_of_active {s : State} {z : Nat} (h : (s.loopCtx z).state = .active) : z < s.heat.loops.length := by
  by_contra hz
  have hd : s.loopCtx z = {} := by simp [State.loopCtx, Nat.not_lt.mp hz]
  rw [hd] at h
  cases h

/-- With the idle timer of a zone at its limit the zone's target is its setback (R53). -/
theorem targetFor_of_idleExpired {s : State} {z : Nat} (hz : z < 4) (h : s.idleExpired z = true) :
    s.targetFor z = s.setback z := by
  obtain ⟨hcounts, -⟩ := Bool.and_eq_true_iff.mp h
  obtain ⟨-, hfree⟩ := Bool.and_eq_true_iff.mp hcounts
  obtain ⟨hgov, hann⟩ := Bool.and_eq_true_iff.mp hfree
  have h4 : z ≠ 4 := by omega
  simp [State.targetFor, h4, Option.isNone_iff_eq_none.mp hgov, List.isEmpty_iff.mp hann, h]

theorem setLoop_setLoop (s : State) (z : Nat) (c d : LoopCtx) : (s.setLoop z c).setLoop z d = s.setLoop z d := by
  simp [State.setLoop]

theorem idleDue_iff (s : State) (z : Nat) : s.idleDue z = true ↔
    (s.loopCtx z).state = .active ∧ zoneEmpty s z = true ∧ 0 < s.L 22 ∧ s.L 22 * 1000 ≤ (s.loopCtx z).idleTimer ∧
      (s.loopCtx z).target ≠ s.L (18 + z) := by
  simp [State.idleDue, State.idleExpired, idleCounts_iff, State.idleDelayMs, State.setback, and_assoc]

theorem idleExpires_eq_whenDue (s : State) {z : Nat} (hz : z < 4) :
    idleExpires s z = whenDue (s.idleDue z) (idleExpire z) s := by
  unfold whenDue
  by_cases hdue : s.idleDue z = true
  · obtain ⟨hact, hfree, hpos, hms, htarget⟩ := (idleDue_iff s z).mp hdue
    rw [if_pos hdue, idleExpires, if_pos ⟨hact, hfree, hpos, hms, htarget⟩]
    congr 1
    let u := s.setLoop z { s.loopCtx z with idleTimer := s.idleDelayMs }
    have hctx : u.loopCtx z = { s.loopCtx z with idleTimer := s.idleDelayMs } :=
      State.loopCtx_setLoop_self s z _ (lt_length_of_active hact)
    have hufree : u.zoneFree z = true := (zoneFree_eq_zoneEmpty s z).trans hfree
    have hidle : u.idleExpired z = true := by
      have hd : 0 < u.idleDelayMs := Nat.mul_pos hpos (by decide)
      have hl : u.idleDelayMs ≤ s.idleDelayMs := Nat.le_refl _
      simp [State.idleExpired, State.idleCounts, hctx, hact, hufree, hd, hl]
    have hv : u.targetFor z = s.setback z := targetFor_of_idleExpired hz hidle
    have hne : s.setback z ≠ (u.loopCtx z).target := by
      rw [hctx]
      exact fun h => htarget h.symm
    show _ = evalTarget z u
    have hkeep : ¬(z < 4 ∧ u.zoneFree z = false) := by simp [hufree]
    simp only [evalTarget, if_neg hkeep, hv, setTarget, if_neg hne, writeTarget]
    rw [hctx, setLoop_setLoop]
    rfl
  · rw [if_neg hdue, idleExpires, if_neg fun h => hdue ((idleDue_iff s z).mpr h)]

/-! The expiries of `expired`, one lemma each. -/

theorem expires_speed (due : Bool) (s : State) : expires due .speedMeasurement s = whenDue due measureSpeed s :=
  expires_eq_whenDue_always due rfl

theorem expires_stall (due : Bool) (s : State) :
    expires due .conveyorStall s = whenDue (s.stallArmed && due) stallExpire s :=
  expires_eq_whenDue due rfl

theorem foldl_idleExpires (s : State) : (List.range 4).foldl idleExpires s = whenDueEach 4 State.idleDue idleExpire s :=
  List.foldl_ext _ _ _ fun t _ hz => idleExpires_eq_whenDue t (List.mem_range.mp hz)

theorem foldl_heatFail (s : State) :
    (List.finRange 5).foldl
      (fun t n => expires (decide (t.L 26 * 1000 ≤ (t.loopCtx n.val).heatFailTimer)) (.heatFail n) t) s =
      whenDueEach 5 State.heatFailDue heatFailExpire s := by
  have each (t : State) (n : Fin 5) :
      expires (decide (t.L 26 * 1000 ≤ (t.loopCtx n.val).heatFailTimer)) (.heatFail n) t =
        whenDue (t.heatFailDue n.val) (heatFailExpire n.val) t :=
    expires_eq_whenDue _ rfl
  simp only [each]
  exact foldl_finRange 5 (fun t n => whenDue (t.heatFailDue n) (heatFailExpire n) t) s

theorem expires_feed (s : State) :
    expires (s.pot.feedTimer.any fun t => decide (t.limit ≤ t.elapsed)) .feedTimerExpiry s =
      whenDue s.feedDue feedExpire s := by
  have hdue : s.feedDue = (s.feedRuns && s.pot.feedTimer.any fun t => decide (t.limit ≤ t.elapsed)) := by
    unfold State.feedDue
    cases s.pot.feedTimer <;> rfl
  rw [hdue]
  exact expires_eq_whenDue _ rfl

theorem expires_potRefresh (due : Bool) (s : State) :
    expires due .potRefreshTimerExpiry s = whenDue due potRefresh s :=
  expires_eq_whenDue_always due rfl

theorem expires_flowLow (due : Bool) (s : State) :
    expires due .flowLowTimerExpiry s = whenDue (s.flowCounts && due) flowExpire s :=
  expires_eq_whenDue due rfl

theorem expires_runOn (s : State) :
    expires (s.exh.runOn.any fun ms => decide (s.L 38 * 1000 ≤ ms)) .runOnTimerExpiry s =
      whenDue s.runOnDue runOnExpire s := by
  have hdue : s.runOnDue = (s.exh.runOn.isSome && s.exh.runOn.any fun ms => decide (s.L 38 * 1000 ≤ ms)) := by
    unfold State.runOnDue
    cases s.exh.runOn <;> rfl
  rw [hdue]
  exact expires_eq_whenDue _ rfl

theorem expires_exhaustRefresh (due : Bool) (s : State) :
    expires due .exhaustRefreshTimerExpiry s = whenDue due exhaustRefresh s :=
  expires_eq_whenDue_always due rfl

theorem expires_settle (due : Bool) (s : State) :
    expires due .settleTimerExpiry s = whenDue (s.settleHolds && due) settleExpire s :=
  expires_eq_whenDue due rfl

theorem expires_second (due : Bool) (s : State) : expires due .secondTimerExpiry s = whenDue due secondExpire s :=
  expires_eq_whenDue_always due rfl

theorem expires_linkDown (p : Port) (due : Bool) (s : State) :
    expires due (.linkDown p) s = whenDue (s.linkUp p && due) (linkLost p) s :=
  expires_eq_whenDue due rfl

theorem foldl_age (s : State) :
    (List.finRange 32).foldl
      (fun t e => expires (decide ((t.entryRow e.val).ageLimit ≤ (t.entryCtx e.val).age)) (.ageTimerExpiry e) t) s =
      whenDueEach 32 State.ageDue ageExpire s := by
  have each (t : State) (e : Fin 32) :
      expires (decide ((t.entryRow e.val).ageLimit ≤ (t.entryCtx e.val).age)) (.ageTimerExpiry e) t =
        whenDue (t.ageDue e.val) (ageExpire e.val) t :=
    expires_eq_whenDue _ rfl
  simp only [each]
  exact foldl_finRange 32 (fun t e => whenDue (t.ageDue e) (ageExpire e) t) s

/-- The due expiries of the model are those of `expired`, in its order. -/
theorem expireRest_expireFirst (s : State) : expireRest (expireFirst s) = expired s := by
  unfold expired
  extract_lets a b c d e f g h i j k l m
  have ha : a = whenDue (decide (Config.secondMs ≤ s.trk.measTimer)) measureSpeed s := expires_speed _ s
  have hb : b = whenDue (a.stallArmed && decide (a.stallMs ≤ a.trk.stallTimer)) stallExpire a := expires_stall _ a
  have hc : c = whenDueEach 4 State.idleDue idleExpire b := foldl_idleExpires b
  have hd : d = whenDueEach 5 State.heatFailDue heatFailExpire c := foldl_heatFail c
  have he : e = whenDue d.feedDue feedExpire d := expires_feed d
  have hf : f = whenDue (decide (Config.secondMs ≤ e.pot.refresh)) potRefresh e := expires_potRefresh _ e
  have hg : g = whenDue (f.flowCounts && decide (f.flowLowMs ≤ f.exh.flowTimer)) flowExpire f := expires_flowLow _ f
  have hh : h = whenDue g.runOnDue runOnExpire g := expires_runOn g
  have hi : i = whenDue (decide (Config.secondMs ≤ h.exh.refresh)) exhaustRefresh h := expires_exhaustRefresh _ h
  have hj : j = whenDue (i.settleHolds && decide (i.settleMs ≤ i.line.settle)) settleExpire i := expires_settle _ i
  have hk : k = whenDue (decide (Config.secondMs ≤ j.line.second)) secondExpire j := expires_second _ j
  have hl : l = whenDue (k.net.upLink && decide (Config.silenceLimit ≤ k.net.upSilence)) (linkLost .up) k :=
    expires_linkDown .up _ k
  have hm : m = whenDue (l.net.downLink && decide (Config.silenceLimit ≤ l.net.downSilence)) (linkLost .down) l :=
    expires_linkDown .down _ l
  have first : expireFirst s = f := by
    rw [hf, he, hd, hc, hb, ha]
    rfl
  have rest : expireRest f = whenDueEach 32 State.ageDue ageExpire m := by
    rw [hm, hl, hk, hj, hi, hh, hg]
    rfl
  rw [first, rest]
  exact (foldl_age m).symm

/-- One millisecond is the timers that count and the expiries that are due. -/
theorem tick_eq_expired_counted (s : State) : tick s = expired (counted s) := by
  rw [tick, countAll_eq_counted, expireRest_expireFirst]

end Sys2Proof.Proofs
end

section
/-! SUPPORT. What the expiries of one millisecond leave alone (R2, R138), and the empty queue's step. -/
namespace Sys2Proof.Proofs
open Sys2Proof Sys2Proof.Machine Sys2Proof.Safety

/-- What every expiry but the second timer's leaves alone: of `still`, all but the tracker's counts, the links with their silence
timers and the filter's entries. -/
def steady (s : State) : State :=
  { still s with
    trk := { position := s.trk.position, announces := s.trk.announces }, net := { address := s.net.address }, filt := {} }

theorem steady_of_still {s t : State} (h : still t = still s) : steady t = steady s :=
  congrArg (fun x => { x with
    trk := { position := x.trk.position, announces := x.trk.announces }, net := { address := x.net.address }
    filt := {} }) h

theorem steady_of_stillTimed {s t : State} (h : stillTimed t = stillTimed s) : steady t = steady s :=
  steady_of_still (still_of_stillTimed h)

theorem steady_settle (s : State) : steady (settle s) = steady s := steady_of_still (still_settle s)

theorem steady_whenDue {f : State → State} (h : ∀ s, steady (f s) = steady s) (due : Bool) (s : State) :
    steady (whenDue due f s) = steady s := by
  unfold whenDue
  split
  · rw [steady_settle, h]
  · rfl

theorem steady_whenDueEach {f : Nat → State → State} (h : ∀ i s, steady (f i s) = steady s) (n : Nat)
    (due : State → Nat → Bool) (s : State) : steady (whenDueEach n due f s) = steady s := by
  unfold whenDueEach
  induction List.range n generalizing s with
  | nil => rfl
  | cons i is ih => exact (ih _).trans (steady_whenDue (h i) _ s)

theorem steady_speedCheck (s : State) : steady (speedCheck s) = steady s := by
  unfold speedCheck
  split <;> rfl

theorem steady_measureSpeed (s : State) : steady (measureSpeed s) = steady s := steady_speedCheck _

theorem steady_stallExpire (s : State) : steady (stallExpire s) = steady s := rfl

theorem steady_settleExpire (s : State) : steady (settleExpire s) = steady s :=
  steady_of_still (leavesStill_enterLine _ _ s).still

theorem steady_linkLost (p : Port) (s : State) : steady (linkLost p s) = steady s := by
  cases p <;> rfl

theorem steady_ageExpire (e : Nat) (s : State) : steady (ageExpire e s) = steady s := rfl

theorem steady_expireFirst (s : State) : steady (expireFirst s) = steady s := by
  unfold expireFirst
  simp only [steady_whenDue steady_measureSpeed, steady_whenDue steady_stallExpire,
    steady_whenDueEach fun i s => steady_of_stillTimed (stillTimed_idleExpire i s),
    steady_whenDueEach fun i s => steady_of_stillTimed (stillTimed_heatFailExpire i s),
    steady_whenDue fun s => steady_of_stillTimed (stillTimed_feedExpire s),
    steady_whenDue fun s => steady_of_stillTimed (stillTimed_potRefresh s)]

/-- The second timer's expiry reads and writes only the line clock and its timer. -/
theorem steady_secondExpire {s t : State} (h : steady t = steady s) : steady (secondExpire t) = steady (secondExpire s) :=
  congrArg secondExpire h

/-- The second timer's expiry where its timer has reached 1000 ms (R138). -/
def secondTaken (s : State) : State := if 1000 ≤ s.line.second then secondExpire s else s

theorem second_of_steady {s t : State} (h : steady t = steady s) : t.line.second = s.line.second :=
  congrArg (fun x => x.line.second) h

theorem steady_secondTaken {s t : State} (h : steady t = steady s) : steady (secondTaken t) = steady (secondTaken s) := by
  unfold secondTaken
  rw [second_of_steady h]
  split
  · exact steady_secondExpire h
  · exact h

theorem steady_second_whenDue (s : State) :
    steady (whenDue (decide (Config.secondMs ≤ s.line.second)) secondExpire s) = steady (secondTaken s) := by
  unfold whenDue secondTaken Config.secondMs
  simp only [decide_eq_true_eq]
  split
  · exact steady_settle _
  · rfl

/-- Of the expiries after the first six only the second timer's is seen. -/
theorem steady_expireRest (s : State) : steady (expireRest s) = steady (secondTaken s) := by
  unfold expireRest
  extract_lets s1 s2 s3 s4 s5 s6 s7
  have before : steady s4 = steady s := by
    simp only [s1, s2, s3, s4, steady_whenDue steady_settleExpire,
      steady_whenDue fun s => steady_of_stillTimed (stillTimed_exhaustRefresh s),
      steady_whenDue fun s => steady_of_stillTimed (stillTimed_runOnExpire s),
      steady_whenDue fun s => steady_of_stillTimed (stillTimed_flowExpire s)]
  have after : steady (whenDueEach 32 State.ageDue ageExpire s7) = steady s5 := by
    simp only [s6, s7, steady_whenDueEach steady_ageExpire, steady_whenDue (steady_linkLost _)]
  exact after.trans ((steady_second_whenDue s4).trans (steady_secondTaken before))

theorem steady_tick (s : State) : steady (tick s) = steady (secondTaken (counted s)) := by
  rw [tick, countAll_eq_counted, steady_expireRest]
  exact steady_secondTaken (steady_expireFirst (counted s))

theorem counted_second (s : State) : (counted s).line.second = min 1000 (s.line.second + 1) := rfl

/-- The line clock and the second timer after one millisecond (R138). -/
theorem secondTaken_counted_line (s : State) :
    (secondTaken (counted s)).line.clockRunning = s.line.clockRunning ∧
      (secondTaken (counted s)).line.clock =
        (if 999 ≤ s.line.second ∧ s.line.clockRunning = true then nextSecond s.line.clock else s.line.clock) ∧
      (secondTaken (counted s)).line.second = if 999 ≤ s.line.second then 0 else s.line.second + 1 := by
  by_cases h : 999 ≤ s.line.second
  · have hdue : 1000 ≤ (counted s).line.second := by
      rw [counted_second]
      omega
    rw [secondTaken, if_pos hdue, if_pos h]
    simp only [h, true_and]
    exact ⟨rfl, rfl, rfl⟩
  · have hdue : ¬1000 ≤ (counted s).line.second := by
      rw [counted_second]
      omega
    rw [secondTaken, if_neg hdue, if_neg h]
    simp only [h, false_and, if_false]
    refine ⟨rfl, rfl, ?_⟩
    rw [counted_second]
    omega

/-- What `steady` shows of two states. -/
theorem steady_eq_iff (s t : State) : steady t = steady s ↔
    t.time = s.time ∧ t.pending = s.pending ∧ t.tab = s.tab ∧ t.ldr = s.ldr ∧ t.trk.position = s.trk.position ∧
      t.trk.announces = s.trk.announces ∧ t.net.address = s.net.address ∧ t.line.clockRunning = s.line.clockRunning ∧
      t.line.clock = s.line.clock ∧ t.line.second = s.line.second := by
  simp [steady, still, and_assoc]
  tauto

theorem secondTaken_frame (s : State) : secondTaken s = { s with line := (secondTaken s).line } := by
  unfold secondTaken
  split <;> rfl

/-- Settles O2: one step counts and takes the due expiries; what `steady` shows of it is the count and the second timer's expiry. -/
theorem Settled.emptyQueueStepIsOneMillisecond : Obligations.EmptyQueueStepIsOneMillisecond := by
  intro s hpending
  have hstep : step s = .next (tick s) := by rw [step, hpending]
  refine ⟨hstep.trans (congrArg _ (tick_eq_expired_counted s)), tick s, hstep, ?_⟩
  obtain ⟨htime, hpend, htab, hldr, hpos, hann, haddr, hrun, hclock, hsecond⟩ := (steady_eq_iff _ _).mp (steady_tick s)
  obtain ⟨hrunning, hclockIs, hsecondIs⟩ := secondTaken_counted_line s
  rw [secondTaken_frame] at htime hpend htab hldr hpos hann haddr
  exact ⟨htime, hpend.trans hpending, htab, hldr, hpos, hann, haddr, hrun.trans hrunning, hclock.trans hclockIs,
    hsecond.trans hsecondIs⟩

end Sys2Proof.Proofs
end

section
/-! SUPPORT. The wave gate with the feeder, the pump command, and the wave crossings (R83, R86, R87, R89 to R91). -/
namespace Sys2Proof.Proofs
open Sys2Proof Sys2Proof.Machine Sys2Proof.Safety

/-! The wave gate. -/

theorem gateRecord_eq_find (s : State) : s.gateRecord = s.trk.track.find? (opensGate s) := rfl

/-- The offer of a changed command writes the loop interface alone. -/
theorem offerChange_frame (s : State) (f : OutFn) (v : Nat) :
    s.offerChange f v = { s with net := (s.offerChange f v).net } := by
  unfold State.offerChange
  split
  · exact State.commandZero_frame s f
  · exact State.commandValue_frame s f v

/-- Deriving the FEEDER command writes that command, the loop interface and the mailbox. -/
theorem deriveFeederCmd_frame (s : State) :
    deriveFeederCmd s = { s with
      pot.feederCmd := (deriveFeederCmd s).pot.feederCmd, net := (deriveFeederCmd s).net
      events := (deriveFeederCmd s).events } := by
  unfold deriveFeederCmd
  dsimp only
  split
  · rfl
  · split
    · rw [offerChange_frame]; rfl
    · rw [offerChange_frame]

/-- Setting the drive writes the drive, the FEEDER command, the loop interface and the mailbox. -/
theorem setDrive_frame (v : Nat) (s : State) :
    setDrive v s = { s with
      pot.feedDrive := v, pot.feederCmd := (setDrive v s).pot.feederCmd, net := (setDrive v s).net
      events := (setDrive v s).events } :=
  deriveFeederCmd_frame _

/-- What the feeder does at a change of the gate (R83). -/
theorem feederOnGate_pot (opened : Bool) (s : State) :
    feederOnGate opened s = { s with
      pot.feeder := (feederOnGate opened s).pot.feeder, pot.feedDrive := (feederOnGate opened s).pot.feedDrive
      pot.feederCmd := (feederOnGate opened s).pot.feederCmd, net := (feederOnGate opened s).net
      events := (feederOnGate opened s).events } := by
  unfold feederOnGate
  split
  · rw [setDrive_frame]
  · rw [setDrive_frame]
  · rfl

@[simp] theorem setDrive_feeder (v : Nat) (s : State) : (setDrive v s).pot.feeder = s.pot.feeder := by
  rw [setDrive_frame]
@[simp] theorem setDrive_feedDrive (v : Nat) (s : State) : (setDrive v s).pot.feedDrive = v := by
  rw [setDrive_frame]

/-- The feeder state and drive after a change of the gate (R83). -/
theorem feederOnGate_feeder (opened : Bool) (s : State) :
    ((feederOnGate opened s).pot.feeder, (feederOnGate opened s).pot.feedDrive) =
      if opened = true ∧ s.pot.feeder = .feeding then (.paused, 0)
      else if opened = false ∧ s.pot.feeder = .paused then (.feeding, s.feedSpeed s.pot.failures)
      else (s.pot.feeder, s.pot.feedDrive) := by
  unfold feederOnGate
  cases opened <;> cases h : s.pot.feeder <;> simp [h]

/-! The pump. -/

/-- A pump that becomes forced flags the boards in contact (R91). -/
def pumpFlagged (s : State) : State :=
  if s.derivedPump.2 = true ∧ s.pot.forced = false then interruptWave s else s

theorem pumpFlagged_frame (s : State) : pumpFlagged s = { s with trk.track := (pumpFlagged s).trk.track } := by
  unfold pumpFlagged
  split <;> rfl

/-- Deriving the pump command writes it, whether it is forced, the flags and the loop interface. -/
theorem derivePump_frame (s : State) :
    derivePump s = { pumpFlagged s with
      pot.pump := s.derivedPump.1, pot.forced := s.derivedPump.2, net := (derivePump s).net } := by
  have hflag : (if (s.derivedPump.2 && !s.pot.forced) = true then interruptWave s else s) = pumpFlagged s := by
    simp [pumpFlagged]
  have hpot : (pumpFlagged s).pot = s.pot := by rw [pumpFlagged_frame]
  unfold derivePump
  dsimp only
  rw [hflag]
  split
  · rfl
  · rw [offerChange_frame]

/-- A rewrite of the records that keeps tag and recipe keeps the recipe a tag finds. -/
theorem recipe_recordOf_mapTrack (s : State) {f : BoardRecord → BoardRecord} (htag : ∀ r, (f r).tag = r.tag)
    (hrecipe : ∀ r, (f r).recipe = r.recipe) (g : Tag) :
    ((s.mapTrack f).recordOf g).bind (fun r => r.recipe) = (s.recordOf g).bind fun r => r.recipe := by
  simp [State.recordOf, List.find?_map, htag, Option.bind_map, hrecipe]

theorem recipe_recordOf_pumpFlagged (s : State) (g : Tag) :
    ((pumpFlagged s).recordOf g).bind (fun r => r.recipe) = (s.recordOf g).bind fun r => r.recipe := by
  unfold pumpFlagged
  split
  · refine recipe_recordOf_mapTrack s (fun r => ?_) (fun r => ?_) g <;> split <;> rfl
  · rfl

theorem derivedPump_congr {s t : State} (hcritical : t.pot.condCritical = s.pot.condCritical)
    (hrecord : t.pot.criticalRecord = s.pot.criticalRecord) (hmanual : t.pot.manualPump = s.pot.manualPump)
    (hgate : t.pot.gateBoard = s.pot.gateBoard) (hline : t.line = s.line) (hheat : t.heat = s.heat) (htab : t.tab = s.tab)
    (hrecipe : ∀ g, (t.recordOf g).bind (fun r => r.recipe) = (s.recordOf g).bind fun r => r.recipe) :
    t.derivedPump = s.derivedPump := by
  unfold State.derivedPump State.P State.standbyDuty State.L
  simp only [hcritical, hrecord, hmanual, hgate, hline, hheat, htab, hrecipe]

/-- Deriving the pump command leaves what it is derived from (R87). -/
theorem derivedPump_derivePump (s : State) : (derivePump s).derivedPump = s.derivedPump := by
  rw [derivePump_frame, pumpFlagged_frame]
  exact derivedPump_congr rfl rfl rfl rfl rfl rfl rfl (recipe_recordOf_pumpFlagged s)

theorem inContact_iff (r : BoardRecord) : inContact r = true ↔ r.waveEntry ≠ none ∧ r.dwell = none := by
  simp [inContact, Option.isSome_iff_ne_none]

/-- The track after the pump command is derived (R91). -/
theorem derivePump_track (s : State) : (derivePump s).trk.track =
    if s.derivedPump.2 = true ∧ s.pot.forced = false then
      s.trk.track.map fun r =>
        if r.waveEntry ≠ none ∧ r.dwell = none then { r with flags.waveInterrupted := true } else r
    else s.trk.track := by
  rw [derivePump_frame]
  unfold pumpFlagged
  split
  · simp only [interruptWave, inContact_iff, State.mapTrack]
  · rfl

/-- The pump command as a table over the gate board's record and its recipe (R87). -/
theorem derivedPump_eq_table (s : State) : s.derivedPump =
    if s.pot.condCritical = true ∨ s.pot.criticalRecord = true then (0, true)
    else if s.line.state = .service then (s.pot.manualPump.getD 0, false)
    else if s.line.state = .idle ∨ s.line.state = .stopped then (0, true)
    else if s.heat.potMolten = false then (0, true)
    else match s.pot.gateBoard.bind fun g => s.trk.track.find? fun r => r.tag == g with
      | none => (s.L 35, false)
      | some r => match r.recipe with
        | none => (s.L 35, false)
        | some row => (s.P row 11, false) := by
  have hgate : (s.pot.gateBoard.bind fun g => (s.recordOf g).bind fun r => r.recipe) =
      (s.pot.gateBoard.bind fun g => s.trk.track.find? fun r => r.tag == g).bind fun r => r.recipe :=
    (Option.bind_assoc _ _ _).symm
  unfold State.derivedPump
  rw [hgate]
  simp only [Bool.or_eq_true, Bool.not_eq_true']
  cases hb : s.pot.gateBoard.bind fun g => s.trk.track.find? fun r => r.tag == g with
  | none => rfl
  | some r => 
    simp only [Option.bind_some]
    cases r.recipe <;> rfl

/-! The evaluation of the gate. -/

/-- The gate board after an evaluation (R86). -/
def nextGate (s : State) : Option Tag := (s.trk.track.find? (opensGate s)).map fun r => r.tag

/-- The state after a new gate board, before the pump: the feeder takes a change of the gate (R83). -/
def gateMoved (s : State) : State :=
  let s1 := { s with pot.gateBoard := nextGate s }
  if (nextGate s).isSome = s.pot.gateBoard.isSome then s1 else feederOnGate (nextGate s).isSome s1

theorem evalGate_same {s : State} (h : nextGate s = s.pot.gateBoard) : evalGate s = s := by
  have hg : (s.gateRecord.map fun r => r.tag) = s.pot.gateBoard := by rw [gateRecord_eq_find, ← h, nextGate]
  unfold evalGate
  dsimp only
  rw [hg, if_pos rfl, if_pos rfl]

theorem evalGate_changed {s : State} (h : nextGate s ≠ s.pot.gateBoard) : evalGate s = derivePump (gateMoved s) :=
  if_neg h

theorem gateMoved_frame (s : State) : gateMoved s = { s with
    pot.gateBoard := nextGate s, pot.feeder := (gateMoved s).pot.feeder, pot.feedDrive := (gateMoved s).pot.feedDrive
    pot.feederCmd := (gateMoved s).pot.feederCmd, net := (gateMoved s).net, events := (gateMoved s).events } := by
  unfold gateMoved
  dsimp only
  split
  · rfl
  · rw [feederOnGate_pot]

/-- The feeder after a new gate board: paused by an opening gate, resumed by a closing one (R83). -/
theorem gateMoved_feeder (s : State) : ((gateMoved s).pot.feeder, (gateMoved s).pot.feedDrive) =
    if nextGate s ≠ none ∧ s.pot.gateBoard = none ∧ s.pot.feeder = .feeding then (.paused, 0)
    else if nextGate s = none ∧ s.pot.gateBoard ≠ none ∧ s.pot.feeder = .paused then
      (.feeding, if s.pot.failures % 2 = 0 then s.L 31 else s.L 32)
    else (s.pot.feeder, s.pot.feedDrive) := by
  unfold gateMoved
  cases nextGate s with
  | none =>
    cases s.pot.gateBoard with
    | none => simp
    | some o =>
      simp [feederOnGate_feeder]
      rfl
  | some g =>
    cases s.pot.gateBoard with
    | none => simp [feederOnGate_feeder]
    | some o => simp

/-- The wave gate, the feeder and the pump after an evaluation (R83, R86, R87). -/
theorem evalGate_spec (s : State) :
    let t := evalGate s
    let g := nextGate s
    t.pot.gateBoard = g ∧ t.pot.feedTimer = s.pot.feedTimer ∧ t.pot.baseline = s.pot.baseline ∧
      t.pot.failures = s.pot.failures ∧
      (t.pot.feeder, t.pot.feedDrive) =
        (if g ≠ none ∧ s.pot.gateBoard = none ∧ s.pot.feeder = .feeding then (.paused, 0)
        else if g = none ∧ s.pot.gateBoard ≠ none ∧ s.pot.feeder = .paused then
          (.feeding, if s.pot.failures % 2 = 0 then s.L 31 else s.L 32)
        else (s.pot.feeder, s.pot.feedDrive)) ∧
      (g = s.pot.gateBoard → t = s) ∧
      (g ≠ s.pot.gateBoard → t.pot.pump = t.derivedPump.1 ∧ t.pot.forced = t.derivedPump.2) := by
  intro t g
  by_cases hg : g = s.pot.gateBoard
  · have ht : t = s := evalGate_same hg
    have hopen : ¬(g ≠ none ∧ s.pot.gateBoard = none ∧ s.pot.feeder = .feeding) := fun h => h.1 (hg.trans h.2.1)
    have hclose : ¬(g = none ∧ s.pot.gateBoard ≠ none ∧ s.pot.feeder = .paused) := fun h => h.2.1 (hg.symm.trans h.1)
    rw [ht, if_neg hopen, if_neg hclose]
    exact ⟨hg.symm, rfl, rfl, rfl, rfl, fun _ => rfl, fun h => absurd hg h⟩
  · have ht : t = derivePump (gateMoved s) := evalGate_changed hg
    have hpot : t.pot = { (gateMoved s).pot with
        pump := t.derivedPump.1, forced := t.derivedPump.2 } := by
      rw [ht, derivedPump_derivePump, derivePump_frame, pumpFlagged_frame]
    have hfeeder := gateMoved_feeder s
    rw [hpot]
    refine ⟨?_, ?_, ?_, ?_, hfeeder, fun h => absurd h hg, fun _ => ⟨rfl, rfl⟩⟩ <;> rw [gateMoved_frame]

/-! The wave crossings. -/

theorem leadCrossing_eq_leadCrossed (s : State) : leadCrossing s = leadCrossed s := by
  funext r
  simp only [leadCrossing, leadCrossed, Option.isNone_iff_eq_none]
  rfl

theorem dwellNow_eq_dwellAt (s : State) (r : BoardRecord) : dwellNow s r = dwellAt s r := rfl

/-- The DWELL_OUT raise of a record, if its trailing edge crosses with a dwell outside its window (R90). -/
def dwellRaise (s : State) (r : BoardRecord) : Option Event :=
  match dwellAt s r with
  | none => none
  | some d => if badDwell s r d then some (.raise .dwellOut r.tag.toNat (some d)) else none

theorem raiseDwellOut_eq (s : State) (r : BoardRecord) :
    raiseDwellOut r s = { s with events := s.events ++ (dwellRaise s r).toList } := by
  have hout (d : Nat) : dwellOut s r d = badDwell s r d := rfl
  unfold raiseDwellOut dwellRaise
  rw [dwellNow_eq_dwellAt]
  cases dwellAt s r with
  | none => simp
  | some d =>
    simp only [hout]
    split
    · rfl
    · simp

/-- The raises of the records, oldest first, go to the end of the mailbox; none reads the mailbox (R90). -/
theorem foldl_raiseDwellOut (l : List BoardRecord) (s : State) :
    l.foldl (fun t r => raiseDwellOut r t) s = { s with events := s.events ++ l.filterMap (dwellRaise s) } := by
  induction l generalizing s with
  | nil => simp
  | cons r l ih =>
    have hsame : dwellRaise (raiseDwellOut r s) = dwellRaise s := by
      rw [raiseDwellOut_eq]
      rfl
    rw [List.foldl_cons, ih, hsame, raiseDwellOut_eq]
    cases hr : dwellRaise s r <;> simp [hr]

/-- The crossing test of every record: the track after both crossings and the raises (R89, R90). -/
theorem waveCrossings_eq (s : State) : waveCrossings s = { s with
    trk.track := (s.trk.track.map (leadCrossed s)).map (trailCrossing s)
    events := s.events ++ (s.trk.track.map (leadCrossed s)).filterMap (dwellRaise s) } := by
  unfold waveCrossings
  rw [leadCrossing_eq_leadCrossed]
  dsimp only
  rw [foldl_raiseDwellOut]
  rfl

/-- Settles O17, from the evaluation of the gate, the pump's table and flags, and the crossings. -/
theorem Settled.waveGateAndCrossings : Obligations.WaveGateAndCrossings := by
  refine ⟨evalGate_spec, derivedPump_eq_table, derivePump_track, fun s => ?_⟩
  exact waveCrossings_eq s

end Sys2Proof.Proofs
end

section
/-! SUPPORT. The position advance (R4): the exits (R16), what edges and exits leave alone, and the whole advance without a
confirmation. -/
namespace Sys2Proof.Proofs
open Sys2Proof Sys2Proof.Machine Sys2Proof.Safety

/-! The exits. -/

theorem noticeBoardExit_eq (r : BoardRecord) :
    noticeBoardExit r = { dest := 63, kind := 5, payload := 3 :: boardImage r } := rfl

/-- The record at the head leaves as `boardExits` states it (R16). -/
theorem exitRecord_eq_boardExits {s : State} {r : BoardRecord} {rest : List BoardRecord} (h : s.trk.track = r :: rest) :
    exitRecord r rest s = boardExits s r := by
  unfold exitRecord boardExits
  rw [noticeBoardExit_eq, h]
  rfl

/-- A record that leaves takes its pin and its place, and its notice is offered (R16). -/
theorem boardExits_frame (s : State) (r : BoardRecord) :
    boardExits s r = { s with
      trk.track := s.trk.track.tail, trk.exited := s.trk.exited + 1, trk.pins := (boardExits s r).trk.pins
      net := (boardExits s r).net, events := (boardExits s r).events } := by
  unfold boardExits
  dsimp only
  rw [State.offerUpNormal_frame]

/-- The exit of one record does not move the exit test of the others (R16). -/
theorem exitsAt_boardExits (s : State) (r : BoardRecord) : exitsAt (boardExits s r) = exitsAt s := by
  rw [boardExits_frame]
  rfl

/-- The exit test, repeated on the new oldest record, takes the oldest records past the exit position (R16). -/
theorem exitTest_eq_foldl (l : List BoardRecord) (s : State) (h : s.trk.track = l) :
    exitTest l.length s = (l.takeWhile (exitsAt s s.trk.position)).foldl boardExits s := by
  induction l generalizing s with
  | nil => rfl
  | cons r rest ih =>
    have hpast : s.trailAtLeast r s.exitPosition = exitsAt s s.trk.position r := rfl
    have htrack : (boardExits s r).trk.track = rest := by
      rw [boardExits_frame, h]
      rfl
    have hpos : (boardExits s r).trk.position = s.trk.position := by rw [boardExits_frame]
    rw [List.length_cons, exitTest, h, List.takeWhile_cons]
    dsimp only
    rw [hpast, exitRecord_eq_boardExits h]
    split
    · rw [ih _ htrack, exitsAt_boardExits, hpos, List.foldl_cons]
    · rfl

theorem endStall_eq_stallOver (s : State) : endStall s = stallOver s := by
  unfold endStall stallOver State.clearIf
  split <;> rfl

theorem testExits_eq_exitsTaken (s : State) : testExits s = exitsTaken s := by
  unfold testExits exitsTaken stallOnEmpty
  rw [exitTest_eq_foldl _ s rfl]
  simp only [List.isEmpty_iff, endStall_eq_stallOver]

/-- The records that left, the counter of exits and what else the exits write (R16, R26). -/
theorem foldl_boardExits_frame (l : List BoardRecord) (s : State) :
    l.foldl boardExits s = { s with
      trk.track := s.trk.track.drop l.length, trk.exited := s.trk.exited + BitVec.ofNat 16 l.length
      trk.pins := (l.foldl boardExits s).trk.pins, net := (l.foldl boardExits s).net
      events := (l.foldl boardExits s).events } := by
  induction l generalizing s with
  | nil => simp
  | cons r l ih =>
    have hcount : s.trk.exited + 1 + BitVec.ofNat 16 l.length = s.trk.exited + BitVec.ofNat 16 (l.length + 1) := by
      rw [BitVec.ofNat_add, BitVec.add_assoc, BitVec.add_comm 1]
      rfl
    rw [List.foldl_cons, ih, boardExits_frame, List.length_cons, ← hcount]
    simp

/-! The advance. -/

theorem advanceBegins_eq (a b : Bool) (s : State) :
    endReverse { s with trk.encA := a, trk.encB := b, trk.position := s.trk.position + 1, trk.residue := 0 } =
      advanceBegins a b s := by
  unfold endReverse advanceBegins State.clearIf
  split <;> rfl

/-- A candidate short of the debounce distance is not confirmed (R7). -/
theorem testCandidate_short {s : State}
    (h : ∀ c, s.trk.candidate = some c → (s.trk.position - c.position).toNat < s.L 1) : testCandidate s = s := by
  unfold testCandidate
  split
  · rfl
  · next c hc => exact if_neg (Nat.not_le.mpr (h c hc))

/-- The test of a record still open (R19), as `advanceEnds` states it. -/
def eyeTested (s : State) : State :=
  match s.trk.track.getLast? with
  | none => s
  | some r =>
    if r.trail = none ∧ 0 < s.L 25 ∧ s.L 25 ≤ (s.trk.position - r.lead).toNat ∧ s.trk.condEye ≠ some r.tag then
      { s with trk.condEye := some r.tag, events := s.events ++ [.raise .eyeBlocked r.tag.toNat none] }
    else s

theorem testEyeBlocked_eq_eyeTested (s : State) : testEyeBlocked s = eyeTested s := by
  unfold testEyeBlocked eyeTested
  cases s.trk.track.getLast? with
  | none => rfl
  | some r =>
    simp only [Option.isNone_iff_eq_none]
    rfl

/-- The whole advance where no candidate is confirmed (R4). -/
theorem positionAdvance_eq {a b : Bool} {s : State}
    (h : ∀ c, s.trk.candidate = some c → (s.trk.position + 1 - c.position).toNat < s.L 1) :
    positionAdvance { s with trk.encA := a, trk.encB := b } = advanceEnds (advanceBegins a b s) := by
  have hshort : testCandidate (advanceBegins a b s) = advanceBegins a b s := testCandidate_short h
  unfold positionAdvance
  dsimp only
  rw [advanceBegins_eq, hshort, testEyeBlocked_eq_eyeTested, testExits_eq_exitsTaken, endStall_eq_stallOver]
  rfl

/-- A forward pulse that fills the scaler advances the position (R3, R4). -/
theorem encoderLevels_advance {a b : Bool} {s : State} (hlevels : forwardLevels a b s)
    (hfull : (if s.L 0 = 0 then 1 else s.L 0) ≤ s.trk.residue + 1) :
    encoderLevels a b s = positionAdvance { s with trk.encA := a, trk.encB := b } := by
  have hpulse : decodePulse s.trk.encA s.trk.encB a b = .forward := by
    unfold forwardLevels at hlevels
    unfold decodePulse
    grind
  unfold encoderLevels
  rw [hpulse]
  exact if_pos hfull

/-! What the edges, the tests and the exits leave alone. -/

/-- The state without what edges, tests and exits write: the records, announces and their counters, the eye, the stall supervision
and its conditions, the loop interface and the mailbox. -/
def exceptEdges (s : State) : State :=
  { s with
    trk := { s.trk with
      track := [], announces := [], nextTag := 0, entered := 0, exited := 0, pins := [], lastEntered := none
      eyeBlocked := false, candidate := none, stallTimer := 0, condStall := false, condEye := none }
    net := {}, events := [] }

@[simp] theorem exceptEdges_ite (c : Prop) [Decidable c] (s t : State) :
    exceptEdges (if c then s else t) = if c then exceptEdges s else exceptEdges t := apply_ite _ _ _ _
@[simp] theorem exceptEdges_post (s : State) (e : Event) : exceptEdges (s.post e) = exceptEdges s := rfl
@[simp] theorem exceptEdges_raise (s : State) (k : AlarmKind) (n : Nat) (v : Option Int) :
    exceptEdges (s.raise k n v) = exceptEdges s := rfl
@[simp] theorem exceptEdges_mapTrack (s : State) (f : BoardRecord → BoardRecord) :
    exceptEdges (s.mapTrack f) = exceptEdges s := rfl
@[simp] theorem exceptEdges_appendBoard (r : BoardRecord) (u : Bool) (s : State) :
    exceptEdges (appendBoard r u s) = exceptEdges s := rfl

@[simp] theorem exceptEdges_eyeTested (s : State) : exceptEdges (eyeTested s) = exceptEdges s := by
  unfold eyeTested
  split
  · rfl
  · split <;> rfl
@[simp] theorem exceptEdges_stallOver (s : State) : exceptEdges (stallOver s) = exceptEdges s := rfl
@[simp] theorem exceptEdges_exitsTaken (s : State) : exceptEdges (exitsTaken s) = exceptEdges s := by
  have hfold (l : List BoardRecord) : exceptEdges (l.foldl boardExits s) = exceptEdges s := by
    rw [foldl_boardExits_frame]
    rfl
  simp [exitsTaken, hfold]
@[simp] theorem exceptEdges_endEyeBlocked (t : Tag) (s : State) : exceptEdges (endEyeBlocked t s) = exceptEdges s := by
  unfold endEyeBlocked
  split <;> rfl
@[simp] theorem exceptEdges_raiseLengths (r : BoardRecord) (len : Nat) (s : State) :
    exceptEdges (raiseLengths r len s) = exceptEdges s := by
  simp [raiseLengths]
@[simp] theorem exceptEdges_leadingEdge (p : Pos) (s : State) : exceptEdges (leadingEdge p s) = exceptEdges s := by
  simp [leadingEdge]
@[simp] theorem exceptEdges_trailingEdge (p : Pos) (s : State) : exceptEdges (trailingEdge p s) = exceptEdges s := by
  unfold trailingEdge
  split
  · rfl
  · simp [testExits_eq_exitsTaken]
@[simp] theorem exceptEdges_testCandidate (s : State) : exceptEdges (testCandidate s) = exceptEdges s := by
  unfold testCandidate confirmEdge
  split
  · rfl
  · split
    · split
      · exact exceptEdges_leadingEdge _ _
      · exact exceptEdges_trailingEdge _ _
    · rfl

/-- Counting an advance is seen alike. -/
theorem exceptEdges_advanced {s t : State} (h : exceptEdges t = exceptEdges s) :
    exceptEdges { t with trk.advances := t.trk.advances + 1 } =
      exceptEdges { s with trk.advances := s.trk.advances + 1 } :=
  congrArg (fun x => { x with trk.advances := x.trk.advances + 1 }) h

/-- The state of an advance before it is counted: the eye's test, the exits, and the stall ended (R4). -/
def advanceTested (a b : Bool) (s : State) : State :=
  stallOver (exitsTaken (eyeTested (testCandidate (advanceBegins a b s))))

theorem positionAdvance_eq_counted (a b : Bool) (s : State) :
    positionAdvance { s with trk.encA := a, trk.encB := b } =
      State.post { advanceTested a b s with trk.advances := (advanceTested a b s).trk.advances + 1 } .advance := by
  unfold positionAdvance advanceTested
  dsimp only
  rw [advanceBegins_eq, testEyeBlocked_eq_eyeTested, testExits_eq_exitsTaken, endStall_eq_stallOver]

/-- An advance, for what edges and exits leave alone: `advanceBegins` and one advance counted (R4). -/
theorem exceptEdges_positionAdvance (a b : Bool) (s : State) :
    exceptEdges (positionAdvance { s with trk.encA := a, trk.encB := b }) =
      exceptEdges { advanceBegins a b s with trk.advances := (advanceBegins a b s).trk.advances + 1 } := by
  have htested : exceptEdges (advanceTested a b s) = exceptEdges (advanceBegins a b s) := by simp [advanceTested]
  rw [positionAdvance_eq_counted, exceptEdges_post]
  exact exceptEdges_advanced htested

/-- An advance ends the stall (R4, R20). -/
theorem positionAdvance_stall (a b : Bool) (s : State) :
    (positionAdvance { s with trk.encA := a, trk.encB := b }).trk.stallTimer = 0 ∧
      (positionAdvance { s with trk.encA := a, trk.encB := b }).trk.condStall = false := by
  rw [positionAdvance_eq_counted]
  exact ⟨rfl, rfl⟩

/-! The track after an advance without a candidate. -/

theorem drop_length_takeWhile {α : Type} (p : α → Bool) (l : List α) :
    l.drop (l.takeWhile p).length = l.dropWhile p := by
  have h := List.drop_left (l₁ := l.takeWhile p) (l₂ := l.dropWhile p)
  rwa [List.takeWhile_append_dropWhile] at h

theorem length_takeWhile_eq_sub {α : Type} (p : α → Bool) (l : List α) :
    (l.takeWhile p).length = l.length - (l.dropWhile p).length := by
  have h := congrArg List.length (List.takeWhile_append_dropWhile (p := p) (l := l))
  rw [List.length_append] at h
  omega

/-- The tracker after the exit test, but for the stall supervision an emptied track ends (R16, R20, R26). -/
theorem exitsTaken_trk (s : State) : (exitsTaken s).trk = { s.trk with
    track := s.trk.track.dropWhile (exitsAt s s.trk.position)
    exited := s.trk.exited +
      BitVec.ofNat 16 (s.trk.track.length - (s.trk.track.dropWhile (exitsAt s s.trk.position)).length)
    pins := (exitsTaken s).trk.pins, stallTimer := (exitsTaken s).trk.stallTimer
    condStall := (exitsTaken s).trk.condStall } := by
  rw [← length_takeWhile_eq_sub, ← drop_length_takeWhile]
  unfold exitsTaken
  dsimp only
  split
  · rw [foldl_boardExits_frame]
    rfl
  · rw [foldl_boardExits_frame]

theorem eyeTested_trk (s : State) : (eyeTested s).trk = { s.trk with condEye := (eyeTested s).trk.condEye } := by
  unfold eyeTested
  split
  · rfl
  · split <;> rfl

theorem eyeTested_tab (s : State) : (eyeTested s).tab = s.tab :=
  congrArg (fun x => x.tab) (exceptEdges_eyeTested s)

theorem exitsAt_of_tab {s t : State} (h : t.tab = s.tab) : exitsAt t = exitsAt s := by
  funext p r
  rw [exitsAt, exitsAt, State.L, State.L, h]

/-- With no candidate pending exactly the oldest records past the exit position leave (R16, R26). -/
theorem advanceTested_trk {a b : Bool} {s : State} (h : s.trk.candidate = none) :
    (advanceTested a b s).trk = { (advanceBegins a b s).trk with
      track := s.trk.track.dropWhile (exitsAt s (s.trk.position + 1))
      exited := s.trk.exited +
        BitVec.ofNat 16 (s.trk.track.length - (s.trk.track.dropWhile (exitsAt s (s.trk.position + 1))).length)
      pins := (advanceTested a b s).trk.pins, stallTimer := 0, condStall := false
      condEye := (advanceTested a b s).trk.condEye } := by
  have hnone : testCandidate (advanceBegins a b s) = advanceBegins a b s :=
    testCandidate_short fun c hc => absurd (hc.symm.trans h) (Option.some_ne_none c)
  have hexits : exitsAt (eyeTested (advanceBegins a b s)) = exitsAt s := exitsAt_of_tab (eyeTested_tab _)
  unfold advanceTested stallOver
  rw [hnone, exitsTaken_trk, hexits, eyeTested_trk]
  rfl

/-! After the events of the advance. -/

/-- What states show alike that differ only in what edges, exits and events write. -/
theorem fields_of_exceptEdges_still {s t : State} (h : exceptEdges (still t) = exceptEdges (still s)) :
    t.trk.position = s.trk.position ∧ t.trk.residue = s.trk.residue ∧ t.trk.revDist = s.trk.revDist ∧
      t.trk.revResidue = s.trk.revResidue ∧ t.trk.condReverse = s.trk.condReverse ∧ t.trk.advances = s.trk.advances ∧
      t.trk.encA = s.trk.encA ∧ t.trk.encB = s.trk.encB ∧ t.trk.speed = s.trk.speed ∧
      t.trk.measTimer = s.trk.measTimer ∧ t.time = s.time ∧ t.tab = s.tab ∧ t.ldr = s.ldr ∧
      t.line.clock = s.line.clock ∧ t.pending = s.pending :=
  ⟨congrArg (fun x => x.trk.position) h, congrArg (fun x => x.trk.residue) h, congrArg (fun x => x.trk.revDist) h,
    congrArg (fun x => x.trk.revResidue) h, congrArg (fun x => x.trk.condReverse) h,
    congrArg (fun x => x.trk.advances) h, congrArg (fun x => x.trk.encA) h, congrArg (fun x => x.trk.encB) h,
    congrArg (fun x => x.trk.speed) h, congrArg (fun x => x.trk.measTimer) h, congrArg (fun x => x.time) h,
    congrArg (fun x => x.tab) h, congrArg (fun x => x.ldr) h, congrArg (fun x => x.line.clock) h,
    congrArg (fun x => x.pending) h⟩

theorem exceptEdges_still_of_exceptEdges {s t : State} (h : exceptEdges t = exceptEdges s) :
    exceptEdges (still t) = exceptEdges (still s) := by
  have commute (x : State) : exceptEdges (still x) = still (exceptEdges x) := rfl
  rw [commute, commute, h]

/-- An advance with its events taken: what no edge, exit or event writes, and the stall it ends (R4, R20). -/
theorem settle_positionAdvance_fields (a b : Bool) (s : State) :
    let t := settle (positionAdvance { s with trk.encA := a, trk.encB := b })
    t.trk.position = s.trk.position + 1 ∧ t.trk.residue = 0 ∧ t.trk.revDist = 0 ∧ t.trk.revResidue = 0 ∧
      t.trk.condReverse = false ∧ t.trk.condStall = false ∧ t.trk.stallTimer = 0 ∧ t.trk.advances = s.trk.advances + 1 ∧
      t.trk.encA = a ∧ t.trk.encB = b ∧ t.trk.speed = s.trk.speed ∧ t.trk.measTimer = s.trk.measTimer ∧
      t.time = s.time ∧ t.tab = s.tab ∧ t.ldr = s.ldr ∧ t.line.clock = s.line.clock ∧ t.pending = s.pending := by
  intro t
  have hstill : still t = still (positionAdvance { s with trk.encA := a, trk.encB := b }) := still_settle _
  have hview := (congrArg exceptEdges hstill).trans
    (exceptEdges_still_of_exceptEdges (exceptEdges_positionAdvance a b s))
  obtain ⟨hpos, hres, hdist, hrevRes, hrev, hadv, hencA, hencB, hspeed, hmeas, htime, htab, hldr, hclock, hpend⟩ :=
    fields_of_exceptEdges_still hview
  obtain ⟨hstall, hcond⟩ := positionAdvance_stall a b s
  exact ⟨hpos, hres, hdist, hrevRes, hrev, (congrArg (fun x => x.trk.condStall) hstill).trans hcond,
    settle_stallTimer hstall, hadv, hencA, hencB, hspeed, hmeas, htime, htab, hldr, hclock, hpend⟩

/-- With no candidate pending: the records, counters and the eye after an advance with its events taken (R16, R26). -/
theorem settle_positionAdvance_track {a b : Bool} {s : State} (h : s.trk.candidate = none) :
    let t := settle (positionAdvance { s with trk.encA := a, trk.encB := b })
    t.trk.track.map boardCore = (s.trk.track.dropWhile (exitsAt s (s.trk.position + 1))).map boardCore ∧
      t.trk.exited = s.trk.exited +
        BitVec.ofNat 16 (s.trk.track.length - (s.trk.track.dropWhile (exitsAt s (s.trk.position + 1))).length) ∧
      t.trk.announces = s.trk.announces ∧ t.trk.entered = s.trk.entered ∧ t.trk.purged = s.trk.purged ∧
      t.trk.nextTag = s.trk.nextTag ∧ t.trk.candidate = none ∧ t.trk.eyeBlocked = s.trk.eyeBlocked := by
  intro t
  have hstill : still t = still (positionAdvance { s with trk.encA := a, trk.encB := b }) := still_settle _
  rw [positionAdvance_eq_counted] at hstill
  have htrk := advanceTested_trk (a := a) (b := b) h
  exact ⟨(congrArg (fun x => x.trk.track) hstill).trans (congrArg (fun k => k.track.map boardCore) htrk),
    (congrArg (fun x => x.trk.exited) hstill).trans (congrArg (fun k => k.exited) htrk),
    (congrArg (fun x => x.trk.announces) hstill).trans (congrArg (fun k => k.announces) htrk),
    (congrArg (fun x => x.trk.entered) hstill).trans (congrArg (fun k => k.entered) htrk),
    (congrArg (fun x => x.trk.purged) hstill).trans (congrArg (fun k => k.purged) htrk),
    (congrArg (fun x => x.trk.nextTag) hstill).trans (congrArg (fun k => k.nextTag) htrk),
    ((congrArg (fun x => x.trk.candidate) hstill).trans (congrArg (fun k => k.candidate) htrk)).trans h,
    (congrArg (fun x => x.trk.eyeBlocked) hstill).trans (congrArg (fun k => k.eyeBlocked) htrk)⟩

/-- Settles O7: a forward pulse that fills the scaler is a position advance and the events it leads to. -/
theorem Settled.positionAdvance : Obligations.PositionAdvance := by
  intro a b s hlevels hfull
  have hexec : exec (.encoderTransition a b) s =
      .next (settle (Machine.positionAdvance { s with trk.encA := a, trk.encB := b })) := by
    rw [← encoderLevels_advance hlevels hfull]
    rfl
  refine ⟨⟨_, hexec, ?_⟩, fun hshort => ?_⟩
  · obtain ⟨hpos, hres, hdist, hrevRes, hrev, hcond, hstall, hadv, hencA, hencB, hspeed, hmeas, htime, htab, hldr, hclock,
      hpend⟩ := settle_positionAdvance_fields a b s
    exact ⟨hpos, hres, hdist, hrevRes, hrev, hcond, hstall, hadv, hencA, hencB, hspeed, hmeas, htime, htab, hldr, hclock,
      hpend, settle_positionAdvance_track⟩
  · rw [hexec, positionAdvance_eq hshort]

end Sys2Proof.Proofs
end

section
/-! SUPPORT. The tracker's bookkeeping (R8, R11, R14, R15, R26): what of the state it reads, and each record or announce that
comes or goes. -/
namespace Sys2Proof.Proofs
open Sys2Proof Sys2Proof.Machine Sys2Proof.Safety

/-! Pin counts. -/

theorem length_pin (pins : List Nat) (recipe : Option Row) : (pin pins recipe).length = pins.length := by
  cases recipe <;> simp [pin]

theorem length_unpin (pins : List Nat) (recipe : Option Row) : (unpin pins recipe).length = pins.length := by
  cases recipe <;> simp [unpin]

/-- One pin more for the row a recipe names, and for no other (R15). -/
theorem getD_pin {pins : List Nat} (h : pins.length = 32) (recipe : Option Row) (row : Row) :
    (pin pins recipe).getD row.val 0 = pins.getD row.val 0 + if recipe == some row then 1 else 0 := by
  cases recipe with
  | none => simp [pin]
  | some named =>
    by_cases hrow : named = row
    · subst hrow
      simp [pin, List.getD, h]
    · have hval : named.val ≠ row.val := fun e => hrow (Fin.ext e)
      simp [pin, List.getD, hrow, List.getElem?_set_ne hval]

/-- One pin less for the row a recipe names, and for no other (R15). -/
theorem getD_unpin {pins : List Nat} (h : pins.length = 32) (recipe : Option Row) (row : Row) :
    (unpin pins recipe).getD row.val 0 = pins.getD row.val 0 - if recipe == some row then 1 else 0 := by
  cases recipe with
  | none => simp [unpin]
  | some named =>
    by_cases hrow : named = row
    · subst hrow
      simp [unpin, List.getD, h]
    · have hval : named.val ≠ row.val := fun e => hrow (Fin.ext e)
      simp [unpin, List.getD, hrow, List.getElem?_set_ne hval]

theorem length_unpinAnnounces (pins : List Nat) (as : List Announce) :
    (unpinAnnounces pins as).length = pins.length := by
  unfold unpinAnnounces
  induction as generalizing pins with
  | nil => rfl
  | cons a as ih => exact (ih _).trans (length_unpin _ _)

/-- Withdrawn announces each take one pin from the row they name (R10). -/
theorem getD_unpinAnnounces {pins : List Nat} (h : pins.length = 32) (as : List Announce) (row : Row) :
    (unpinAnnounces pins as).getD row.val 0 = pins.getD row.val 0 - as.countP fun a => a.row == row := by
  unfold unpinAnnounces
  induction as generalizing pins with
  | nil => simp
  | cons a as ih =>
    have hstep := getD_unpin h (some a.row) row
    rw [List.foldl_cons, ih ((length_unpin _ _).trans h), hstep, List.countP_cons, Option.some_beq_some]
    omega

/-! What the bookkeeping reads. -/

/-- The part of the tracker the bookkeeping reads; the rest as at reset. -/
def bookkept (s : State) : Tracker :=
  { announces := s.trk.announces, track := s.trk.track.map boardCore, pins := s.trk.pins, nextTag := s.trk.nextTag
    entered := s.trk.entered, exited := s.trk.exited, purged := s.trk.purged, eyeBlocked := s.trk.eyeBlocked
    candidate := s.trk.candidate }

theorem bookkept_of_still {s t : State} (h : still t = still s) : bookkept t = bookkept s :=
  congrArg (fun x : State =>
    ({ announces := x.trk.announces, track := x.trk.track, pins := x.trk.pins, nextTag := x.trk.nextTag
       entered := x.trk.entered, exited := x.trk.exited, purged := x.trk.purged, eyeBlocked := x.trk.eyeBlocked
       candidate := x.trk.candidate } : Tracker)) h

theorem bookkept_of_stillTimed {s t : State} (h : stillTimed t = stillTimed s) : bookkept t = bookkept s :=
  bookkept_of_still (still_of_stillTimed h)

/-- A record is counted, tagged and trailed alike with what the blocks report into it taken away. -/
theorem countP_map_boardCore (track : List BoardRecord) (row : Row) :
    (track.map boardCore).countP (fun r => r.recipe == some row) = track.countP fun r => r.recipe == some row :=
  List.countP_map

theorem map_tag_map_boardCore (track : List BoardRecord) :
    (track.map boardCore).map (fun r => r.tag) = track.map fun r => r.tag :=
  List.map_map

theorem trail_of_mem_map_boardCore {l : List BoardRecord} :
    (∀ r ∈ l.map boardCore, r.trail.isSome = true) ↔ ∀ r ∈ l, r.trail.isSome = true :=
  List.forall_mem_map

/-- The bookkeeping in terms of what it reads. -/
theorem trackerInv_iff_bookkept (s : State) :
    TrackerInv s ↔ TrackerInv { State.reset with trk := bookkept s } := by
  have hlen : (s.trk.track.map boardCore).length = s.trk.track.length := List.length_map _
  have hpins (row : Row) : namers { State.reset with trk := bookkept s } row = namers s row :=
    congrArg (· + _) (countP_map_boardCore s.trk.track row)
  have pins : PinsRight s ↔ PinsRight { State.reset with trk := bookkept s } := by
    unfold PinsRight
    simp only [hpins]
    rfl
  have counters : CountersRight s ↔ CountersRight { State.reset with trk := bookkept s } := by
    unfold CountersRight bookkept
    simp only [hlen]
  have tags : TagsRight s ↔ TagsRight { State.reset with trk := bookkept s } := by
    unfold TagsRight bookkept
    simp only [hlen, map_tag_map_boardCore]
  have trails : TrailsRight s ↔ TrailsRight { State.reset with trk := bookkept s } := by
    unfold TrailsRight bookkept
    simp only [← List.map_dropLast, trail_of_mem_map_boardCore]
  constructor
  · intro h
    exact ⟨hlen.trans_le h.track, h.announces, pins.mp h.pins, counters.mp h.counters, tags.mp h.tags,
      trails.mp h.trails⟩
  · intro h
    exact ⟨hlen.symm.trans_le h.track, h.announces, pins.mpr h.pins, counters.mpr h.counters, tags.mpr h.tags,
      trails.mpr h.trails⟩

/-- States alike in what the bookkeeping reads have it alike. -/
theorem trackerInv_of_bookkept {s t : State} (h : bookkept t = bookkept s) (hs : TrackerInv s) : TrackerInv t := by
  rw [trackerInv_iff_bookkept, h, ← trackerInv_iff_bookkept]
  exact hs

theorem trackerInv_of_trk {s t : State} (h : t.trk = s.trk) (hs : TrackerInv s) : TrackerInv t :=
  trackerInv_of_bookkept (by rw [bookkept, bookkept, h]) hs

theorem trackerInv_post {s : State} (e : Event) (hs : TrackerInv s) : TrackerInv (s.post e) :=
  trackerInv_of_trk (s := s) rfl hs

theorem trackerInv_settle {s : State} (hs : TrackerInv s) : TrackerInv (settle s) :=
  trackerInv_of_bookkept (bookkept_of_still (still_settle s)) hs

/-! A record leaves at the head of the track queue (R16, R23). -/

/-- The track without its oldest record, whose pin falls (R15). -/
def recordLeaves (s : State) (r : BoardRecord) (rest : List BoardRecord) : State :=
  { s with trk.track := rest, trk.pins := unpin s.trk.pins r.recipe }

section Leaves
variable {s : State} {r : BoardRecord} {rest : List BoardRecord}

theorem namers_cons (h : s.trk.track = r :: rest) (row : Row) :
    namers s row = namers (recordLeaves s r rest) row + if r.recipe == some row then 1 else 0 := by
  simp only [namers, h, recordLeaves, List.countP_cons]
  omega

theorem pinsRight_recordLeaves (h : s.trk.track = r :: rest) (hs : PinsRight s) : PinsRight (recordLeaves s r rest) := by
  obtain ⟨hlen, hcount⟩ := hs
  refine ⟨(length_unpin _ _).trans hlen, fun row => ?_⟩
  have hrow := getD_unpin hlen r.recipe row
  rw [hcount row, namers_cons h row, Nat.add_sub_cancel] at hrow
  exact hrow

theorem tagsFrom_succ (t : Tag) (n : Nat) : tagsFrom t (n + 1) = t :: tagsFrom (t + 1) n := by
  have hshift (i : Nat) : t + BitVec.ofNat 16 (i + 1) = t + 1 + BitVec.ofNat 16 i := by
    rw [BitVec.ofNat_add, BitVec.add_assoc, BitVec.add_comm (BitVec.ofNat 16 i)]
    rfl
  unfold tagsFrom
  rw [List.range_succ_eq_map, List.map_cons, List.map_map]
  exact List.cons_eq_cons.mpr ⟨BitVec.add_zero t, List.map_congr_left fun i _ => hshift i⟩

theorem tagsRight_recordLeaves (h : s.trk.track = r :: rest) (hs : TagsRight s) : TagsRight (recordLeaves s r rest) := by
  have hstart : s.trk.nextTag - BitVec.ofNat 16 (rest.length + 1) + 1 = s.trk.nextTag - BitVec.ofNat 16 rest.length := by
    rw [BitVec.ofNat_add]
    simp only [BitVec.ofNat_eq_ofNat]
    ring
  unfold TagsRight at hs
  rw [h, List.map_cons, List.length_cons, tagsFrom_succ, hstart] at hs
  exact (List.cons.inj hs).2

theorem trailsRight_recordLeaves (h : s.trk.track = r :: rest) (hs : TrailsRight s) :
    TrailsRight (recordLeaves s r rest) := by
  obtain ⟨hold, hclear, hcand⟩ := hs
  rw [h] at hold hclear
  refine ⟨fun x hx => hold x ?_, fun hb x hx => hclear hb x (List.mem_cons_of_mem r hx), hcand⟩
  cases rest with
  | nil => cases hx
  | cons y ys => exact List.mem_cons_of_mem r hx

end Leaves

/-! The edges and the exits. -/

/-- A record that exits is counted (R16, R26). -/
theorem trackerInv_exitRecord {s : State} {r : BoardRecord} {rest : List BoardRecord} (h : s.trk.track = r :: rest)
    (hs : TrackerInv s) : TrackerInv (exitRecord r rest s) := by
  have htrk : (exitRecord r rest s).trk = { (recordLeaves s r rest).trk with exited := s.trk.exited + 1 } := by
    unfold exitRecord
    dsimp only
    rw [State.offerUpNormal_frame]
    rfl
  have hlen : rest.length + 1 ≤ 16 := by
    have := hs.track
    rwa [h] at this
  have hcount : s.trk.entered - (s.trk.exited + 1) - s.trk.purged = BitVec.ofNat 16 rest.length := by
    have hbefore := hs.counters
    rw [CountersRight, h, List.length_cons, BitVec.ofNat_add] at hbefore
    have hone : s.trk.entered - (s.trk.exited + 1) - s.trk.purged =
        s.trk.entered - s.trk.exited - s.trk.purged - BitVec.ofNat 16 1 := by
      simp only [BitVec.ofNat_eq_ofNat]
      ring
    rw [hone, hbefore, BitVec.add_sub_cancel]
  refine trackerInv_of_trk (s := { recordLeaves s r rest with trk.exited := s.trk.exited + 1 }) htrk ?_
  exact ⟨Nat.le_of_succ_le hlen, hs.announces, (pinsRight_recordLeaves h hs.pins :), hcount,
    (tagsRight_recordLeaves h hs.tags :), (trailsRight_recordLeaves h hs.trails :)⟩

theorem trackerInv_exitTest (n : Nat) {s : State} (hs : TrackerInv s) : TrackerInv (exitTest n s) := by
  induction n generalizing s with
  | zero => exact hs
  | succ n ih =>
    unfold exitTest
    split
    · exact hs
    · next r rest h =>
      split
      · exact ih (trackerInv_exitRecord h hs)
      · exact hs

theorem bookkept_endStall (s : State) : bookkept (endStall s) = bookkept s := by
  rw [endStall_eq_stallOver]
  rfl

theorem trackerInv_endStall {s : State} (hs : TrackerInv s) : TrackerInv (endStall s) :=
  trackerInv_of_bookkept (bookkept_endStall s) hs

theorem trackerInv_testExits {s : State} (hs : TrackerInv s) : TrackerInv (testExits s) := by
  unfold testExits stallOnEmpty
  split
  · exact trackerInv_endStall (trackerInv_exitTest _ hs)
  · exact trackerInv_exitTest _ hs

/-! The leading edge (R12, R13). -/

section Append
variable {s : State} {r : BoardRecord} {unannounced : Bool}

/-- What a new record is bound to: the head announce, which it consumes, or the unannounced policy (R13). -/
def BoundTo (s : State) (r : BoardRecord) (unannounced : Bool) : Prop :=
  (∃ a rest, s.trk.announces = a :: rest ∧ r.recipe = some a.row ∧ unannounced = false) ∨
    (s.trk.announces = [] ∧ unannounced = true)

theorem boundTo_newBoard (s : State) (p : Pos) : BoundTo s (s.newBoard p s.binding) s.binding.unannounced := by
  unfold State.binding
  cases h : s.trk.announces with
  | nil => exact .inr ⟨h, rfl⟩
  | cons a rest => exact .inl ⟨a, rest, h, rfl, rfl⟩

/-- A consumed announce hands its pin to the record; a record of row 0 by the policy takes a pin of its own (R13, R15). -/
theorem pinsRight_appendBoard (hb : BoundTo s r unannounced) (hs : PinsRight s) :
    PinsRight (appendBoard r unannounced s) := by
  obtain ⟨hlen, hcount⟩ := hs
  have hnamers (row : Row) : namers (appendBoard r unannounced s) row =
      s.trk.track.countP (fun x => x.recipe == some row) + (if r.recipe == some row then 1 else 0) +
        s.trk.announces.tail.countP fun a => a.row == row := by
    simp [namers, appendBoard, List.countP_append, List.countP_cons]
  rcases hb with ⟨a, rest, hann, hrecipe, rfl⟩ | ⟨hann, rfl⟩
  · refine ⟨hlen, fun row => ?_⟩
    rw [hnamers, hrecipe, hann, List.tail_cons, Option.some_beq_some]
    refine (hcount row).trans ?_
    rw [namers, hann, List.countP_cons]
    omega
  · refine ⟨(length_pin _ _).trans hlen, fun row => ?_⟩
    rw [hnamers, hann]
    refine (getD_pin hlen r.recipe row).trans ?_
    rw [hcount, namers, hann]
    rfl

theorem tagsFrom_concat (t : Tag) (n : Nat) : tagsFrom t (n + 1) = tagsFrom t n ++ [t + BitVec.ofNat 16 n] := by
  simp [tagsFrom, List.range_succ]

theorem tagsRight_appendBoard (htag : r.tag = s.trk.nextTag) (hs : TagsRight s) :
    TagsRight (appendBoard r unannounced s) := by
  have hstart : s.trk.nextTag + 1 - BitVec.ofNat 16 (s.trk.track.length + 1) =
      s.trk.nextTag - BitVec.ofNat 16 s.trk.track.length := by
    rw [BitVec.ofNat_add]
    simp only [BitVec.ofNat_eq_ofNat]
    ring
  show (s.trk.track ++ [r]).map (fun x => x.tag) =
    tagsFrom (s.trk.nextTag + 1 - BitVec.ofNat 16 (s.trk.track ++ [r]).length) (s.trk.track ++ [r]).length
  rw [List.length_append, List.length_singleton, hstart, tagsFrom_concat, BitVec.sub_add_cancel, List.map_append, ← hs,
    List.map_singleton, htag]

theorem countersRight_appendBoard (hs : CountersRight s) : CountersRight (appendBoard r unannounced s) := by
  show s.trk.entered + 1 - s.trk.exited - s.trk.purged = BitVec.ofNat 16 (s.trk.track ++ [r]).length
  rw [List.length_append, List.length_singleton, BitVec.ofNat_add, ← hs]
  simp only [BitVec.ofNat_eq_ofNat]
  ring

/-- Behind records that all have trails a record without one may join while the eye is BLOCKED (R11). -/
theorem trailsRight_appendBoard (heye : s.trk.eyeBlocked = true) (htrails : ∀ x ∈ s.trk.track, x.trail.isSome = true)
    (hs : TrailsRight s) : TrailsRight (appendBoard r unannounced s) := by
  obtain ⟨-, -, hcand⟩ := hs
  refine ⟨fun x hx => htrails x ?_, fun hclear => ?_, hcand⟩
  · have hdrop : (appendBoard r unannounced s).trk.track.dropLast = s.trk.track := List.dropLast_concat
    rwa [hdrop] at hx
  · exact absurd (heye.symm.trans hclear) (by decide)

end Append

/-- A leading edge while the eye is BLOCKED and no record is open (R12, R13). -/
theorem trackerInv_leadingEdge {s : State} (p : Pos) (heye : s.trk.eyeBlocked = true)
    (htrails : ∀ r ∈ s.trk.track, r.trail.isSome = true) (hs : TrackerInv s) : TrackerInv (leadingEdge p s) := by
  unfold leadingEdge
  split
  · exact trackerInv_post _ hs
  · next hroom =>
    have hroom : s.trk.track.length < 16 := Nat.lt_of_not_le hroom
    have happended : TrackerInv (appendBoard (s.newBoard p s.binding) s.binding.unannounced s) := by
      refine ⟨?_, ?_, pinsRight_appendBoard (boundTo_newBoard s p) hs.pins, countersRight_appendBoard hs.counters,
        tagsRight_appendBoard rfl hs.tags, trailsRight_appendBoard heye htrails hs.trails⟩
      · simpa [appendBoard] using hroom
      · have := hs.announces
        simp only [appendBoard, List.length_tail]
        omega
    refine trackerInv_of_trk ?_ happended
    dsimp only
    split <;> rfl

/-! The trailing edge (R14). -/

/-- At most one record is open, the newest (R11). -/
theorem open_unique {track : List BoardRecord} (h : ∀ r ∈ track.dropLast, r.trail.isSome = true) {x y : BoardRecord}
    (hx : x ∈ track) (hy : y ∈ track) (hxOpen : x.trail.isSome = false) (hyOpen : y.trail.isSome = false) : x = y := by
  have last {r : BoardRecord} (hr : r ∈ track) (hopen : r.trail.isSome = false) : track.getLast? = some r := by
    rcases List.eq_nil_or_concat track with hnil | ⟨init, z, hinit⟩
    · rw [hnil] at hr
      cases hr
    · rw [List.concat_eq_append] at hinit
      rw [hinit, List.dropLast_concat] at h
      rw [hinit, List.mem_append, List.mem_singleton] at hr
      rcases hr with hold | rfl
      · exact absurd (h r hold) (by simp [hopen])
      · rw [hinit, List.getLast?_concat]
  exact Option.some.inj ((last hx hxOpen).symm.trans (last hy hyOpen))

theorem newestOpen_none_iff {track : List BoardRecord} :
    newestOpen track = none ↔ ∀ r ∈ track, r.trail.isSome = true := by
  simp [newestOpen, List.find?_eq_none, Option.isSome_iff_ne_none]

theorem newestOpen_some {track : List BoardRecord} {r : BoardRecord} (h : newestOpen track = some r) :
    r ∈ track ∧ r.trail.isSome = false := by
  have hopen := List.find?_some h
  exact ⟨List.mem_reverse.mp (List.mem_of_find?_eq_some h), by simpa using hopen⟩

/-- The trailing edge of the newest open record gives every record a trail (R14). -/
theorem trails_after_trailed {s : State} (p : Pos) {r : BoardRecord} (hr : newestOpen s.trk.track = some r)
    (hs : ∀ x ∈ s.trk.track.dropLast, x.trail.isSome = true) :
    ∀ x ∈ s.trk.track.map (fun x => if x = r then s.trailed p r else x), x.trail.isSome = true := by
  obtain ⟨hmem, hopen⟩ := newestOpen_some hr
  refine List.forall_mem_map.mpr fun x hx => ?_
  split
  · rfl
  · next hne => exact Bool.eq_true_of_not_eq_false fun hx0 => hne (open_unique hs hx hmem hx0 hopen)

/-- A map of the records that keeps tags and recipes and trails every record keeps the bookkeeping with the eye CLEAR. -/
theorem trackerInv_mapTrack {s : State} {f : BoardRecord → BoardRecord} (htag : ∀ r, (f r).tag = r.tag)
    (hrecipe : ∀ r, (f r).recipe = r.recipe) (htrails : ∀ r ∈ s.trk.track.map f, r.trail.isSome = true)
    (hcand : s.trk.candidate = none) (hs : TrackerInv { s with trk.eyeBlocked := true }) : TrackerInv (s.mapTrack f) := by
  have hlen : (s.trk.track.map f).length = s.trk.track.length := List.length_map f
  have hcount (row : Row) : (s.trk.track.map f).countP (fun r => r.recipe == some row) =
      s.trk.track.countP fun r => r.recipe == some row := by
    rw [List.countP_map]
    exact List.countP_congr fun r _ => by simp [hrecipe]
  obtain ⟨hpinsLen, hpins⟩ := hs.pins
  refine ⟨hlen.trans_le hs.track, hs.announces, ⟨hpinsLen, fun row => ?_⟩, ?_, ?_, fun r hr => ?_, fun _ => htrails,
    fun c hc => absurd (hc.symm.trans hcand) (Option.some_ne_none c)⟩
  · exact (hpins row).trans (congrArg (· + _) (hcount row).symm)
  · exact hs.counters.trans (congrArg (BitVec.ofNat 16) hlen.symm)
  · show (s.trk.track.map f).map (fun r => r.tag) =
      tagsFrom (s.trk.nextTag - BitVec.ofNat 16 (s.trk.track.map f).length) (s.trk.track.map f).length
    rw [hlen, List.map_map]
    exact (List.map_congr_left fun r _ => htag r).trans hs.tags
  · exact htrails r (List.mem_of_mem_dropLast hr)

theorem trk_raiseLengths (r : BoardRecord) (len : Nat) (s : State) : (raiseLengths r len s).trk = s.trk := by
  unfold raiseLengths
  dsimp only
  split <;> split <;> rfl

theorem bookkept_endEyeBlocked (t : Tag) (s : State) : bookkept (endEyeBlocked t s) = bookkept s := by
  unfold endEyeBlocked
  split <;> rfl

/-- A trailing edge while the eye is CLEAR and no candidate is pending (R14). -/
theorem trackerInv_trailingEdge {s : State} (p : Pos) (hcand : s.trk.candidate = none)
    (hs : TrackerInv { s with trk.eyeBlocked := true }) : TrackerInv (trailingEdge p s) := by
  obtain ⟨hold, -, -⟩ := hs.trails
  unfold trailingEdge
  split
  · next hnone =>
    have htrails := newestOpen_none_iff.mp hnone
    exact ⟨hs.track, hs.announces, hs.pins, hs.counters, hs.tags, hold, fun _ => htrails,
      fun c hc => absurd (hc.symm.trans hcand) (Option.some_ne_none c)⟩
  · next r hr =>
    have htrailed : TrackerInv (s.mapTrack fun x => if x = r then s.trailed p r else x) := by
      refine trackerInv_mapTrack (fun x => ?_) (fun x => ?_) (trails_after_trailed p hr hold) hcand hs
      · split
        · next h => rw [h]; rfl
        · rfl
      · split
        · next h => rw [h]; rfl
        · rfl
    have hlengths := trackerInv_of_trk (trk_raiseLengths r (dist p r.lead) _) htrailed
    have heye := trackerInv_of_bookkept (bookkept_endEyeBlocked r.tag _) hlengths
    exact trackerInv_post _ (trackerInv_testExits heye)

/-- A confirmed candidate (R7). -/
theorem trackerInv_confirmEdge {s : State} {c : Candidate} (hc : c.blocked = !s.trk.eyeBlocked) (hs : TrackerInv s) :
    TrackerInv (confirmEdge c s) := by
  obtain ⟨hold, hclear, -⟩ := hs.trails
  have hbase (b : Bool) (hb : b = false → ∀ r ∈ s.trk.track, r.trail.isSome = true) :
      TrackerInv { s with trk.eyeBlocked := b, trk.candidate := none } :=
    ⟨hs.track, hs.announces, hs.pins, hs.counters, hs.tags, hold, hb, fun _ h => nomatch h⟩
  unfold confirmEdge
  dsimp only
  split
  · next hb =>
    have heye : s.trk.eyeBlocked = false := by simpa [hb] using hc
    exact trackerInv_leadingEdge c.position hb (hclear heye) (hbase c.blocked fun h => absurd (hb.symm.trans h) (by decide))
  · exact trackerInv_trailingEdge c.position rfl (hbase true fun h => absurd h (by decide))

theorem trackerInv_testCandidate {s : State} (hs : TrackerInv s) : TrackerInv (testCandidate s) := by
  obtain ⟨-, -, hcand⟩ := hs.trails
  unfold testCandidate
  split
  · exact hs
  · next c hc =>
    split
    · exact trackerInv_confirmEdge (hcand c hc) hs
    · exact hs

theorem trackerInv_eyeLevel (blocked : Bool) {s : State} (hs : TrackerInv s) : TrackerInv (eyeLevel blocked s) := by
  obtain ⟨hold, hclear, -⟩ := hs.trails
  have hbase (c : Option Candidate) (hc : ∀ x, c = some x → x.blocked = !s.trk.eyeBlocked) :
      TrackerInv { s with trk.candidate := c } :=
    ⟨hs.track, hs.announces, hs.pins, hs.counters, hs.tags, hold, hclear, hc⟩
  unfold eyeLevel
  split
  · split
    · exact hs
    · next hne =>
      have hb : blocked = !s.trk.eyeBlocked := Bool.eq_not_of_ne hne
      dsimp only
      split
      · exact trackerInv_confirmEdge hb hs
      · exact hbase _ fun x hx => Option.some.inj hx ▸ hb
  · split
    · exact hbase none fun x hx => nomatch hx
    · exact hs

end Sys2Proof.Proofs
end

section
/-! SUPPORT. What the directives and telegrams that are not the tracker's leave alone of `stillTimed`, or of the tracker's
bookkeeping where they write tables, the filter or the links. -/
namespace Sys2Proof.Proofs
open Sys2Proof Sys2Proof.Machine Sys2Proof.Safety

/-! The alarm unit's acknowledgements. -/

@[simp] theorem stillTimed_acknowledgeListFull (s : State) : stillTimed (acknowledgeListFull s) = stillTimed s := by
  unfold acknowledgeListFull
  split
  · rfl
  · split <;> simp
@[simp] theorem stillTimed_alarmAcknowledge (k : AlarmKind) (src : Nat) (s : State) :
    stillTimed (alarmAcknowledge k src s) = stillTimed s := by
  unfold alarmAcknowledge
  split
  · simp
  · split
    · rfl
    · split
      · split <;> simp
      · simp
      · rfl
@[simp] theorem stillTimed_alarmRestart (s : State) : stillTimed (alarmRestart s) = stillTimed s := by
  unfold alarmRestart
  rw [stillTimed_foldl fun t r => stillTimed_removalReport r t]
  rfl

/-! Manual outputs. -/

@[simp] theorem stillTimed_takeManual (i m : Nat) (s : State) : stillTimed (takeManual i m s) = stillTimed s := by
  simp [takeManual]
@[simp] theorem stillTimed_manualHeater (i v : Nat) (s : State) : stillTimed (manualHeater i v s).2 = stillTimed s := by
  unfold manualHeater
  split
  · rfl
  · split <;> simp
@[simp] theorem stillTimed_manualPumpOutput (v : Nat) (s : State) : stillTimed (manualPumpOutput v s) = stillTimed s := by
  simp [manualPumpOutput]
@[simp] theorem stillTimed_manualFeederOutput (v : Nat) (s : State) :
    stillTimed (manualFeederOutput v s) = stillTimed s := by
  simp [manualFeederOutput]
@[simp] theorem stillTimed_manualFanOutput (v : Nat) (s : State) : stillTimed (manualFanOutput v s) = stillTimed s := by
  simp [manualFanOutput]
@[simp] theorem stillTimed_manualDrive (f : OutFn) (v : Nat) {apply : State → State} (s : State)
    (h : stillTimed (apply s) = stillTimed s) : stillTimed (manualDrive f v apply s).2 = stillTimed s := by
  unfold manualDrive
  split
  · rfl
  · exact h
@[simp] theorem stillTimed_manualOutput (function v : Nat) (s : State) :
    stillTimed (manualOutput function v s).2 = stillTimed s := by
  unfold manualOutput
  split <;> simp

/-! LINE RESTART at the blocks after the tracker. -/

@[simp] theorem stillTimed_fluxRestart (s : State) : stillTimed (fluxRestart s) = stillTimed s := rfl
@[simp] theorem stillTimed_heatRestart (s : State) : stillTimed (heatRestart s) = stillTimed s := rfl
@[simp] theorem stillTimed_potRestart (s : State) : stillTimed (potRestart s) = stillTimed s := by
  simp [potRestart]
@[simp] theorem stillTimed_exhaustRestart (s : State) : stillTimed (exhaustRestart s) = stillTimed s := by
  simp [exhaustRestart]
@[simp] theorem stillTimed_lineRestartFields (s : State) : stillTimed (lineRestartFields s) = stillTimed s := rfl

/-- Entry into IDLE keeps `still`, for the line controller asserts HOLD in it (R20). -/
theorem leavesStill_restartToIdle (s : State) : LeavesStill s (restartToIdle s) := by
  unfold restartToIdle
  split
  · refine .of_stillTimed ?_
    rw [stillTimed_deriveLamps, stillTimed_deriveDemand, stillTimed_forLoops stillTimed_deriveLoop]
  · exact leavesStill_enterLine _ _ s

/-! SET STATE. -/

theorem leavesStill_setState (entry src operand : Nat) (s : State) :
    LeavesStill s (setState entry src operand s).2.2 := by
  have enters (new : LineState) : LeavesStill s (enterLine new .directive s) := leavesStill_enterLine _ _ s
  unfold setState
  split
  · unfold setIdle
    split
    · exact .refl s
    · split
      · exact .refl s
      · exact enters .idle
  · unfold setWarmup
    split
    · exact .refl s
    · split
      · exact .refl s
      · exact enters .warmup
    all_goals exact .refl s
  · unfold setDrain
    split
    · exact enters .drain
    all_goals exact .refl s
  · unfold setResume
    split
    · exact enters .warmup
    · exact .refl s
  · split
    · unfold setService
      split
      · exact .refl s
      · split
        · exact enters .service
        · exact .refl s
    · exact .refl s
  · exact .refl s

/-! Writes to the tables: what follows a stored cell. -/

@[simp] theorem stillTimed_recomputeLead (s : State) : stillTimed (recomputeLead s) = stillTimed s := rfl
@[simp] theorem stillTimed_potLineWrite (s : State) : stillTimed (potLineWrite s) = stillTimed s := by
  simp [potLineWrite]
@[simp] theorem stillTimed_flowLimitWritten (s : State) : stillTimed (flowLimitWritten s) = stillTimed s := by
  simp [flowLimitWritten]
@[simp] theorem stillTimed_exhaustLineWrite (col : Nat) (s : State) :
    stillTimed (exhaustLineWrite col s) = stillTimed s := by
  unfold exhaustLineWrite
  split <;> simp
@[simp] theorem stillTimed_loopWrite (row col : Nat) (s : State) : stillTimed (loopWrite row col s) = stillTimed s := by
  simp [loopWrite, maxDutyWritten, heatFailTest, enableWritten]

/-! The bookkeeping, where `stillTimed` sees a write. -/

/-- Rewriting records in what other blocks report into them is not seen (R11). -/
theorem bookkept_mapTrack (s : State) {f : BoardRecord → BoardRecord} (h : ∀ r, boardCore (f r) = boardCore r) :
    bookkept (s.mapTrack f) = bookkept s := bookkept_of_stillTimed (stillTimed_mapTrack s h)

theorem bookkept_clearIf (s : State) (b : Bool) (k : AlarmKind) (n : Nat) : bookkept (s.clearIf b k n) = bookkept s :=
  bookkept_of_stillTimed (stillTimed_clearIf s b k n)

theorem bookkept_restartEntry (e : Nat) (s : State) : bookkept (restartEntry e s) = bookkept s := by
  have hcleared : bookkept (((s.setEntry e {}).clearIf (s.entryCtx e).fault .sensorFault e).clearIf
      (s.entryCtx e).silent .sensorSilent e) = bookkept s := by
    rw [bookkept_clearIf, bookkept_clearIf]
    rfl
  unfold restartEntry
  dsimp only
  split <;> exact hcleared

theorem bookkept_endNodeFault (f : OutFn) (s : State) : bookkept (endNodeFault f s) = bookkept s := by
  unfold endNodeFault
  rw [bookkept_clearIf]
  rfl

/-- No write of a cell is seen: it stores in the tables, and what follows it is the other blocks' (R180). -/
theorem bookkept_writeCell (table row col : Nat) (v : Int) (s : State) :
    bookkept (writeCell table row col v s) = bookkept s := by
  unfold writeCell
  split
  · unfold writeRecipe
    dsimp only
    split <;> rfl
  · refine (bookkept_of_stillTimed (s := { s with tab.line := s.tab.line.set col v.toNat }) ?_).trans rfl
    simp [writeLine]
  · refine (bookkept_of_stillTimed
      (s := { s with tab.loop := s.tab.loop.set row ((s.tab.loop.getD row []).set col v.toNat) }) ?_).trans rfl
    simp [writeLoop]
  · unfold writeChannel
    split
    · exact bookkept_restartEntry row s
    · rfl
  · unfold writeOutput
    dsimp only
    split
    · exact bookkept_endNodeFault _ _
    · rfl
  · rfl
  · rfl

/-! The links and the filter. -/

theorem bookkept_wakeUp (s : State) : bookkept s.wakeUp = bookkept s := bookkept_of_stillTimed (stillTimed_wakeUp s)

theorem bookkept_forward (p : Port) (run : List Byte) (s : State) : bookkept (s.forward p run) = bookkept s := by
  rw [State.forward_frame]
  rfl

theorem bookkept_linkHeard (p : Port) (s : State) : bookkept (linkHeard p s) = bookkept s := by
  cases p <;> unfold linkHeard <;> dsimp only <;> split <;> rfl

theorem bookkept_linkLost (p : Port) (s : State) : bookkept (linkLost p s) = bookkept s := by
  cases p <;> rfl

theorem bookkept_badTelegram (p : Port) (s : State) : bookkept (badTelegram p s) = bookkept s := by
  cases p <;> rfl

theorem bookkept_boundary (p : Port) (s : State) : bookkept (boundary p s) = bookkept s := by
  cases p
  · exact bookkept_wakeUp _
  · exact bookkept_of_stillTimed (stillTimed_wakeDown _)

theorem bookkept_foldl {α : Type} {f : State → α → State} (h : ∀ s a, bookkept (f s a) = bookkept s) (l : List α)
    (s : State) : bookkept (l.foldl f s) = bookkept s := by
  induction l generalizing s with
  | nil => rfl
  | cons a l ih => exact (ih _).trans (h s a)

theorem bookkept_takePair (src : Nat) (s : State) (p : Nat × Int) : bookkept (takePair src s p) = bookkept s := by
  unfold takePair
  split
  · rfl
  · next e _ =>
    split
    · have hraised : bookkept (if (s.entryCtx e).fault then
            (s.setEntry e { age := 0, fault := true, silent := false }).clearIf (s.entryCtx e).silent .sensorSilent e
          else ((s.setEntry e { age := 0, fault := true, silent := false }).clearIf (s.entryCtx e).silent
            .sensorSilent e).raise .sensorFault e (some p.2)) = bookkept s := by
        split <;> exact bookkept_clearIf _ _ _ _
      unfold takeFaultPair
      dsimp only
      split <;> exact hraised
    · unfold takeValidPair
      exact (bookkept_clearIf _ _ _ _).trans (bookkept_clearIf _ _ _ _)

theorem bookkept_testNode (status : Nat) (s : State) (f : OutFn) : bookkept (testNode status s f) = bookkept s := by
  unfold testNode
  split
  · split <;> rfl
  · exact bookkept_endNodeFault f s

theorem bookkept_takeSample (src status : Nat) (pairs : List (Nat × Int)) (s : State) :
    bookkept (takeSample src status pairs s) = bookkept s :=
  (bookkept_foldl (bookkept_takePair src) _ _).trans (bookkept_foldl (bookkept_testNode status) _ _)

theorem bookkept_takeOutput (t : Received) (pairs : List (Nat × Nat)) (s : State) :
    bookkept (takeOutput t pairs s) = bookkept s := by
  unfold takeOutput
  split
  · exact bookkept_forward _ _ _
  · split
    · exact bookkept_forward _ _ _
    · exact bookkept_of_stillTimed (stillTimed_offerUpNormal _ _)

end Sys2Proof.Proofs
end

section
/-! SUPPORT. Every step keeps the tracker's bookkeeping: the tracker's own commands and directives, then each command and the
millisecond of an empty queue. -/
namespace Sys2Proof.Proofs
open Sys2Proof Sys2Proof.Machine Sys2Proof.Safety

/-! The encoder and the timers. -/

theorem bookkept_endReverse (s : State) : bookkept (endReverse s) = bookkept s := bookkept_clearIf _ _ _ _

theorem bookkept_testEyeBlocked (s : State) : bookkept (testEyeBlocked s) = bookkept s := by
  unfold testEyeBlocked
  split
  · rfl
  · split <;> rfl

theorem trackerInv_positionAdvance {s : State} (hs : TrackerInv s) : TrackerInv (positionAdvance s) := by
  let begun : State := endReverse { s with trk.position := s.trk.position + 1, trk.residue := 0 }
  have hbegun : TrackerInv begun := trackerInv_of_bookkept (bookkept_endReverse _) (trackerInv_of_bookkept (s := s) rfl hs)
  have hlooked : TrackerInv (testEyeBlocked (testCandidate begun)) :=
    trackerInv_of_bookkept (bookkept_testEyeBlocked _) (trackerInv_testCandidate hbegun)
  have hends := trackerInv_endStall (trackerInv_testExits hlooked)
  exact trackerInv_post _ (trackerInv_of_bookkept (s := endStall _) rfl hends)

theorem bookkept_reversePulse (s : State) : bookkept (reversePulse s) = bookkept s := by
  unfold reversePulse
  split
  · rfl
  · split
    · unfold reverseTenth
      dsimp only
      split <;> rfl
    · rfl

theorem trackerInv_encoderLevels (a b : Bool) {s : State} (hs : TrackerInv s) : TrackerInv (encoderLevels a b s) := by
  have hlevels : TrackerInv { s with trk.encA := a, trk.encB := b } := trackerInv_of_bookkept (s := s) rfl hs
  unfold encoderLevels
  dsimp only
  split
  · exact hlevels
  · unfold forwardPulse
    split
    · exact trackerInv_positionAdvance hlevels
    · exact trackerInv_of_bookkept (s := s) rfl hs
  · exact trackerInv_of_bookkept (bookkept_reversePulse _) hlevels

theorem bookkept_measureSpeed (s : State) : bookkept (measureSpeed s) = bookkept s := by
  have hflags (u : State) : bookkept (u.mapTrack fun r => if u.offends r then { r with flags.speedOut := true } else r) =
      bookkept u := bookkept_mapTrack u fun r => by split <;> rfl
  have hcheck (u : State) : bookkept (speedCheck u) = bookkept u := by
    unfold speedCheck
    split <;> exact hflags u
  exact hcheck _

/-! The tracker's directives. -/

/-- An announce joins with a pin of its row (R9, R15). -/
theorem trackerInv_announceBoard (entry row : Nat) (id : List Byte) {s : State} (hs : TrackerInv s) :
    TrackerInv (announceBoard entry row id s).2 := by
  unfold announceBoard
  split
  · exact trackerInv_post _ hs
  · next hnone =>
    have hroom : s.trk.announces.length < 8 := by
      unfold announceRefusal at hnone
      split at hnone
      · cases hnone
      · split at hnone
        · cases hnone
        · split at hnone
          · cases hnone
          · next hfull => exact Nat.lt_of_not_le hfull
    obtain ⟨hpinsLen, hpins⟩ := hs.pins
    refine trackerInv_post _ ⟨hs.track, ?_, ⟨?_, fun n => ?_⟩, hs.counters, hs.tags, hs.trails⟩
    · simpa using hroom
    · exact (length_pin _ (some (Fin.ofNat 32 row))).trans hpinsLen
    · refine (getD_pin hpinsLen (some (Fin.ofNat 32 row)) n).trans ?_
      rw [hpins n, Option.some_beq_some]
      simp [namers, List.countP_append, List.countP_cons, Nat.add_assoc]

/-- Withdrawn announces take their pins with them (R10, R15). -/
theorem trackerInv_withdrawAnnounces {s : State} (hs : TrackerInv s) : TrackerInv (withdrawAnnounces s) := by
  unfold withdrawAnnounces
  split
  · exact hs
  · obtain ⟨hpinsLen, hpins⟩ := hs.pins
    refine trackerInv_post _ ⟨hs.track, Nat.zero_le 8, ⟨(length_unpinAnnounces _ _).trans hpinsLen, fun n => ?_⟩,
      hs.counters, hs.tags, hs.trails⟩
    refine (getD_unpinAnnounces hpinsLen s.trk.announces n).trans ?_
    rw [hpins n, namers, Nat.add_sub_cancel]
    rfl

/-- A record purged leaves the track with its pin; nothing else of the tracker moves (R23). -/
theorem purgeRecord_frame (r : BoardRecord) (s : State) :
    purgeRecord r s = { s with
      trk.track := s.trk.track.tail, trk.pins := unpin s.trk.pins r.recipe
      net := (purgeRecord r s).net, events := (purgeRecord r s).events } := by
  unfold purgeRecord
  rw [State.offerUpNormal_frame]

/-- Purging all the records empties the track (R23). -/
theorem foldl_purgeRecord_frame (l : List BoardRecord) (s : State) :
    l.foldl (fun t r => purgeRecord r t) s = { s with
      trk.track := s.trk.track.drop l.length
      trk.pins := (l.foldl (fun t r => purgeRecord r t) s).trk.pins
      net := (l.foldl (fun t r => purgeRecord r t) s).net
      events := (l.foldl (fun t r => purgeRecord r t) s).events } := by
  induction l generalizing s with
  | nil => simp
  | cons r l ih =>
    rw [List.foldl_cons, ih, purgeRecord_frame]
    simp

theorem pinsRight_foldl_purgeRecord (l : List BoardRecord) {s : State} (h : s.trk.track = l) (hs : PinsRight s) :
    PinsRight (l.foldl (fun t r => purgeRecord r t) s) := by
  induction l generalizing s with
  | nil => exact hs
  | cons r l ih =>
    have htrack : (purgeRecord r s).trk.track = l := by
      rw [purgeRecord_frame, h]
      rfl
    have hpins : PinsRight (purgeRecord r s) := by
      rw [purgeRecord_frame, h]
      exact (pinsRight_recordLeaves h hs :)
    exact ih htrack hpins

theorem bookkept_purgeConditions (s : State) : bookkept (purgeConditions s) = bookkept s := by
  unfold purgeConditions
  dsimp only
  rw [bookkept_endStall]
  split <;> split <;> rfl

/-- A purge counts the records that leave (R23, R26). -/
theorem trackerInv_purgeTrack {s : State} (hs : TrackerInv s) : TrackerInv (purgeTrack s).2 := by
  unfold purgeTrack
  split
  · exact hs
  · let gone : State := s.trk.track.foldl (fun t r => purgeRecord r t) s
    have htrk : gone.trk = { s.trk with track := [], pins := gone.trk.pins } := by
      have := congrArg (fun x => x.trk) (foldl_purgeRecord_frame s.trk.track s)
      simpa using this
    have hgone : TrackerInv { gone with trk.purged := s.trk.purged + BitVec.ofNat 16 s.trk.track.length } := by
      have hpins : PinsRight gone := pinsRight_foldl_purgeRecord _ rfl hs.pins
      have hcount : s.trk.entered - s.trk.exited - (s.trk.purged + BitVec.ofNat 16 s.trk.track.length) = 0 := by
        rw [← hs.counters]
        ring
      obtain ⟨-, -, hcand⟩ := hs.trails
      unfold PinsRight namers at hpins
      rw [htrk] at hpins ⊢
      exact ⟨Nat.zero_le 16, hs.announces, hpins, hcount, rfl, fun r hr => absurd hr List.not_mem_nil,
        fun _ r hr => absurd hr List.not_mem_nil, hcand⟩
    have hdone := trackerInv_of_bookkept (bookkept_purgeConditions _) hgone
    dsimp only
    split
    · exact hdone
    · exact trackerInv_post _ hdone

/-- Empty queues with counters and pins at 0 are a tracker after either reset (R27, R28). -/
theorem trackerInv_of_empty {s : State} (htrack : s.trk.track = []) (hann : s.trk.announces = [])
    (hpins : s.trk.pins = List.replicate 32 0) (hentered : s.trk.entered = 0) (hexited : s.trk.exited = 0)
    (hpurged : s.trk.purged = 0) (hcand : ∀ c, s.trk.candidate = some c → c.blocked = !s.trk.eyeBlocked) :
    TrackerInv s where
  track := by simp [htrack]
  announces := by simp [hann]
  pins := by
    refine ⟨by simp [hpins], fun row => ?_⟩
    rw [hpins, List.getD_replicate _ row.isLt]
    simp [namers, htrack, hann]
  counters := by simp [CountersRight, htrack, hentered, hexited, hpurged]
  tags := by simp [TagsRight, tagsFrom, htrack]
  trails := ⟨by simp [htrack], by simp [htrack], hcand⟩

/-- LINE RESTART empties the queues and counters with the pins, and leaves the eye and its candidate (R28). -/
theorem trackerInv_trackerRestart {s : State} (hs : TrackerInv s) : TrackerInv (trackerRestart s) := by
  obtain ⟨-, -, hcand⟩ := hs.trails
  exact trackerInv_of_empty rfl rfl rfl rfl rfl rfl hcand

theorem bookkept_restartBlocks (s : State) : bookkept (restartBlocks s) = bookkept (trackerRestart s) := by
  have hfilter (u : State) : bookkept (filterRestart u) = bookkept u := rfl
  unfold restartBlocks
  rw [hfilter]
  exact bookkept_of_stillTimed (by simp)

theorem trackerInv_lineRestart {s : State} (hs : TrackerInv s) : TrackerInv (lineRestart s).2 := by
  have hblocks : TrackerInv (restartBlocks s) :=
    trackerInv_of_bookkept (bookkept_restartBlocks s) (trackerInv_trackerRestart hs)
  have hfields : TrackerInv (lineRestartFields (settle (restartBlocks s))) :=
    trackerInv_of_bookkept (bookkept_of_stillTimed (stillTimed_lineRestartFields _)) (trackerInv_settle hblocks)
  unfold lineRestart
  split
  · exact trackerInv_of_bookkept (bookkept_of_still (leavesStill_restartToIdle _).still) hfields
  · exact hs

/-! The other directives. -/

theorem bookkept_readStatus (entry selector part : Nat) (s : State) :
    bookkept (readStatus entry selector part s).2.2 = bookkept s := by
  unfold readStatus
  split
  · rfl
  · split
    · rfl
    · split
      · rfl
      · split <;> rfl

theorem bookkept_setCursor (entry table firstRow lastRow firstCol lastCol mode : Nat) (s : State) :
    bookkept (setCursor entry table firstRow lastRow firstCol lastCol mode s).2 = bookkept s := by
  unfold setCursor
  split <;> rfl

theorem bookkept_readRun (entry count : Nat) (s : State) : bookkept (readRun entry count s).2.2 = bookkept s := by
  unfold readRun
  split
  · rfl
  · split <;> rfl

theorem bookkept_writeValues (entry : Nat) (held : Bool) (ws : List Nat) (n : Nat) (clamped : Bool) (s : State) :
    bookkept (writeValues entry held ws n clamped s).2.2 = bookkept s := by
  induction ws generalizing n clamped s with
  | nil => rfl
  | cons w ws ih =>
    unfold writeValues
    split
    · rfl
    · dsimp only
      split
      · rfl
      · exact (ih _ _ _).trans ((bookkept_of_still (still_settle _)).trans (bookkept_writeCell _ _ _ _ s))

theorem bookkept_writeRun (entry src : Nat) (more : Bool) (bytes : List Byte) (s : State) :
    bookkept (writeRun entry src more bytes s).2.2 = bookkept s := by
  unfold writeRun
  split
  · rfl
  · rfl
  · split
    · rfl
    · exact bookkept_writeValues _ _ _ _ _ s

theorem stillTimed_acknowledgePair (kind source : Nat) (s : State) :
    stillTimed (acknowledgePair kind source s).2 = stillTimed s := by
  unfold acknowledgePair
  split
  · rfl
  · split
    · rfl
    · exact stillTimed_alarmAcknowledge _ _ s

theorem bookkept_acknowledgeAll (s : State) : bookkept (acknowledgeAll s).2 = bookkept s := by
  have each (t : State) (r : AlarmRecord) : bookkept (settle (alarmAcknowledge r.kind r.source t)) = bookkept t :=
    (bookkept_of_still (still_settle _)).trans (bookkept_of_stillTimed (stillTimed_alarmAcknowledge _ _ t))
  unfold acknowledgeAll
  split
  · rfl
  · exact (bookkept_of_stillTimed (stillTimed_acknowledgeListFull _)).trans (bookkept_foldl each _ s)

theorem bookkept_acknowledge (form kind source : Nat) (s : State) :
    bookkept (acknowledge form kind source s).2 = bookkept s := by
  unfold acknowledge
  split
  · exact bookkept_of_stillTimed (stillTimed_acknowledgePair _ _ s)
  · exact bookkept_acknowledgeAll s
  · rfl

/-- The SERVICE class check keeps what the directive behind it keeps (R173). -/
theorem serviceOnly_keeps {P : State → Prop} {f : State → Result × State} (entry src : Nat) {s : State} (hs : P s)
    (hf : P (f s).2) : P (serviceOnly entry src s f).2 := by
  unfold serviceOnly
  split
  · exact hf
  · exact hs

theorem bookkept_clockSet (d h m sec : Nat) (s : State) : bookkept (clockSet d h m sec s).2 = bookkept s := by
  unfold clockSet
  split <;> rfl

theorem bookkept_setAddress (first : Bool) (a : Nat) (s : State) : bookkept (setAddress first a s).2 = bookkept s := by
  unfold setAddress
  split
  · rfl
  · split <;> rfl

theorem state_readTrack (index : Nat) (s : State) : (readTrack index s).state = s := by
  unfold readTrack
  split
  · rfl
  · split <;> rfl

theorem state_readAlarms (f : AlarmFilter) (s : State) : (readAlarms f s).state = s := by
  unfold readAlarms
  split <;> rfl

/-- Every directive keeps the bookkeeping. -/
theorem trackerInv_directive (entry src : Nat) (first : Bool) (d : Directive) {s : State} (hs : TrackerInv s) :
    TrackerInv (directive entry src first d s).state := by
  cases d with
  | identify => exact hs
  | readStatus sel part => exact trackerInv_of_bookkept (bookkept_readStatus _ _ _ s) hs
  | setCursor t r0 r1 c0 c1 m => exact trackerInv_of_bookkept (bookkept_setCursor _ _ _ _ _ _ _ s) hs
  | writeRun more bytes => exact trackerInv_of_bookkept (bookkept_writeRun _ _ _ _ s) hs
  | readRun n => exact trackerInv_of_bookkept (bookkept_readRun _ _ s) hs
  | readTrack i => exact trackerInv_of_bookkept (congrArg bookkept (state_readTrack _ s)) hs
  | announceBoard row id => exact trackerInv_announceBoard _ _ _ hs
  | withdrawAnnounces => exact trackerInv_withdrawAnnounces hs
  | purgeTrack => exact trackerInv_purgeTrack hs
  | readAlarms en k src' sev st skip => exact trackerInv_of_bookkept (congrArg bookkept (state_readAlarms _ s)) hs
  | acknowledge form k src' => exact trackerInv_of_bookkept (bookkept_acknowledge _ _ _ s) hs
  | setState operand => exact trackerInv_of_bookkept (bookkept_of_still (leavesStill_setState _ _ _ s).still) hs
  | manualOutput f v =>
    exact serviceOnly_keeps _ _ hs (trackerInv_of_bookkept (bookkept_of_stillTimed (stillTimed_manualOutput _ _ s)) hs)
  | clockHold => exact trackerInv_of_bookkept (s := s) rfl hs
  | clockSet d h m sec => exact trackerInv_of_bookkept (bookkept_clockSet _ _ _ _ s) hs
  | clockRun => exact trackerInv_of_bookkept (s := s) rfl hs
  | lineRestart => exact serviceOnly_keeps _ _ hs (trackerInv_lineRestart hs)
  | setAddress a => exact serviceOnly_keeps _ _ hs (trackerInv_of_bookkept (bookkept_setAddress _ _ s) hs)

/-! Requests and telegrams. -/

/-- A refusal for want of room (R146) keeps the state, and a directive that runs has its events taken. -/
theorem trackerInv_takeItem (entry src : Nat) (first : Bool) (used after : Nat) (d : Directive) {s : State}
    (hs : TrackerInv s) : TrackerInv (takeItem entry src first used after d s).state := by
  unfold takeItem
  split
  · exact trackerInv_settle (trackerInv_directive _ _ _ _ hs)
  · exact hs

theorem trackerInv_runItems (entry src : Nat) (items : List Item) (first stopped : Bool) (acc : List (List Byte))
    {s : State} (hs : TrackerInv s) : TrackerInv (runItems entry src items first stopped acc s).2 := by
  induction items generalizing first stopped acc s with
  | nil => exact hs
  | cons item rest ih =>
    unfold runItems
    split
    · exact ih _ _ _ hs
    · split
      · exact ih _ _ _ hs
      · exact ih _ _ _ hs
      · exact ih _ _ _ (trackerInv_takeItem _ _ _ _ _ _ hs)

theorem trackerInv_requestArrives (src : Nat) (seq : Byte) (items : List Item) {s : State} (hs : TrackerInv s) :
    TrackerInv (requestArrives src seq items s) := by
  unfold requestArrives
  split
  · let reserved : State := { s with net.reserved := some s.net.upNormal.length }
    have hreserved : TrackerInv reserved := trackerInv_of_trk (s := s) rfl hs
    have hlist : TrackerInv (runList src items reserved).2 := by
      unfold runList
      split
      · exact hreserved
      · exact trackerInv_runItems _ _ _ _ _ _ hreserved
    unfold takeRequest fillReply
    exact trackerInv_of_bookkept (bookkept_wakeUp _) (trackerInv_of_trk (s := (runList src items reserved).2) rfl hlist)
  · exact trackerInv_post _ hs

theorem trackerInv_linkHeard (p : Port) {s : State} (hs : TrackerInv s) : TrackerInv (settle (linkHeard p s)) :=
  trackerInv_settle (trackerInv_of_bookkept (bookkept_linkHeard p s) hs)

theorem trackerInv_receiveDirective (r : Requester) (d : Directive) {s : State} (hs : TrackerInv s) :
    TrackerInv (receiveDirective r d s) := by
  unfold receiveDirective
  split
  · exact trackerInv_of_bookkept (bookkept_badTelegram _ s) hs
  · dsimp only
    split
    · exact trackerInv_linkHeard _ hs
    · exact trackerInv_requestArrives _ _ _ (trackerInv_linkHeard _ hs)

theorem trackerInv_dispose (p : Port) (t : Received) {s : State} (hs : TrackerInv s) : TrackerInv (dispose p t s) := by
  have hforward : TrackerInv (s.forward p t.raw) := trackerInv_of_bookkept (bookkept_forward _ _ s) hs
  unfold dispose
  split
  · exact hs
  · split
    · split
      · exact trackerInv_requestArrives _ _ _ hs
      · exact hs
    · split
      · split
        · next status pairs _ =>
          have htaken : TrackerInv (settle (takeSample t.source status pairs s)) :=
            trackerInv_settle (trackerInv_of_bookkept (bookkept_takeSample _ _ _ s) hs)
          unfold takeBroadcast
          dsimp only
          split
          · exact htaken
          · exact trackerInv_of_bookkept (bookkept_forward _ _ _) htaken
        · exact hforward
      · split
        · split
          · exact trackerInv_of_bookkept (bookkept_takeOutput _ _ s) hs
          · exact hforward
        · exact hforward

theorem trackerInv_receiveRun (p : Port) (run : List Byte) {s : State} (hs : TrackerInv s) :
    TrackerInv (receiveRun p run s) := by
  unfold receiveRun
  split
  · exact trackerInv_of_bookkept (bookkept_badTelegram p s) hs
  · exact trackerInv_dispose _ _ (trackerInv_linkHeard p hs)

/-! The step. -/

/-- A device reset leaves the track, its counters and its pins empty (R27). -/
theorem trackerInv_deviceReset (a b eye : Bool) (straps : BitVec 6) (s : State) :
    TrackerInv (deviceReset a b eye straps s) :=
  trackerInv_of_empty rfl rfl rfl rfl rfl rfl fun c hc => absurd hc.symm (Option.some_ne_none c)

section Expiries
variable {f : State → State} (h : ∀ s, bookkept (f s) = bookkept s)
include h

theorem trackerInv_settle_of_bookkept {s : State} (hs : TrackerInv s) : TrackerInv (settle (f s)) :=
  trackerInv_settle (trackerInv_of_bookkept (h s) hs)

theorem trackerInv_ite_settle (armed : Bool) {s : State} (hs : TrackerInv s) :
    TrackerInv (if armed then settle (f s) else s) := by
  split
  · exact trackerInv_settle_of_bookkept h hs
  · exact hs

theorem trackerInv_whenDue (due : Bool) {s : State} (hs : TrackerInv s) : TrackerInv (whenDue due f s) :=
  trackerInv_ite_settle h due hs

end Expiries

theorem trackerInv_whenDueEach {f : Nat → State → State} (h : ∀ i s, bookkept (f i s) = bookkept s) (n : Nat)
    (due : State → Nat → Bool) {s : State} (hs : TrackerInv s) : TrackerInv (whenDueEach n due f s) := by
  unfold whenDueEach
  induction List.range n generalizing s with
  | nil => exact hs
  | cons i is ih => exact ih (trackerInv_whenDue (h i) _ hs)

theorem bookkept_settleExpire (s : State) : bookkept (settleExpire s) = bookkept s :=
  bookkept_of_still (leavesStill_enterLine _ _ s).still

theorem bookkept_stallExpire (s : State) : bookkept (stallExpire s) = bookkept s := rfl
theorem bookkept_secondExpire (s : State) : bookkept (secondExpire s) = bookkept s := rfl
theorem bookkept_ageExpire (e : Nat) (s : State) : bookkept (ageExpire e s) = bookkept s := rfl
theorem bookkept_countAll (s : State) : bookkept (countAll s) = bookkept s := rfl

theorem trackerInv_expireFirst {s : State} (hs : TrackerInv s) : TrackerInv (expireFirst s) := by
  unfold expireFirst
  refine trackerInv_whenDue (fun u => bookkept_of_stillTimed (stillTimed_potRefresh u)) _ ?_
  refine trackerInv_whenDue (fun u => bookkept_of_stillTimed (stillTimed_feedExpire u)) _ ?_
  refine trackerInv_whenDueEach (fun i u => bookkept_of_stillTimed (stillTimed_heatFailExpire i u)) _ _ ?_
  refine trackerInv_whenDueEach (fun i u => bookkept_of_stillTimed (stillTimed_idleExpire i u)) _ _ ?_
  refine trackerInv_whenDue bookkept_stallExpire _ ?_
  exact trackerInv_whenDue bookkept_measureSpeed _ hs

theorem trackerInv_expireRest {s : State} (hs : TrackerInv s) : TrackerInv (expireRest s) := by
  unfold expireRest
  refine trackerInv_whenDueEach bookkept_ageExpire _ _ ?_
  refine trackerInv_whenDue (bookkept_linkLost .down) _ ?_
  refine trackerInv_whenDue (bookkept_linkLost .up) _ ?_
  refine trackerInv_whenDue bookkept_secondExpire _ ?_
  refine trackerInv_whenDue bookkept_settleExpire _ ?_
  refine trackerInv_whenDue (fun u => bookkept_of_stillTimed (stillTimed_exhaustRefresh u)) _ ?_
  refine trackerInv_whenDue (fun u => bookkept_of_stillTimed (stillTimed_runOnExpire u)) _ ?_
  exact trackerInv_whenDue (fun u => bookkept_of_stillTimed (stillTimed_flowExpire u)) _ hs

/-- One millisecond keeps the bookkeeping: each expiry does, with the events it leads to. -/
theorem trackerInv_tick {s : State} (hs : TrackerInv s) : TrackerInv (tick s) :=
  trackerInv_expireRest (trackerInv_expireFirst (trackerInv_of_bookkept (bookkept_countAll s) hs))

/-- Every command keeps the bookkeeping. -/
theorem trackerInv_exec (c : Instr) {s t : State} (hs : TrackerInv s) (h : exec c s = .next t) : TrackerInv t := by
  have request (r : Requester) (d : Directive) : TrackerInv (settle (receiveDirective r d s)) :=
    trackerInv_settle (trackerInv_receiveDirective r d hs)
  have timed (f : State → State) (hf : ∀ u, stillTimed (f u) = stillTimed u) (u : State) : bookkept (f u) = bookkept u :=
    bookkept_of_stillTimed (hf u)
  cases c with
  | deviceReset a b eye straps => cases h; exact trackerInv_deviceReset _ _ _ _ _
  | encoderTransition a b => cases h; exact trackerInv_settle (trackerInv_encoderLevels a b hs)
  | eyeChange blocked => cases h; exact trackerInv_settle (trackerInv_eyeLevel blocked hs)
  | speedMeasurement => cases h; exact trackerInv_settle_of_bookkept bookkept_measureSpeed hs
  | conveyorStall => cases h; exact trackerInv_ite_settle bookkept_stallExpire _ hs
  | idleTimerExpiry zone => cases h; exact trackerInv_ite_settle (timed _ (stillTimed_idleExpire _)) _ hs
  | heatFail loop => cases h; exact trackerInv_ite_settle (timed _ (stillTimed_heatFailExpire _)) _ hs
  | feedTimerExpiry => cases h; exact trackerInv_ite_settle (timed _ stillTimed_feedExpire) _ hs
  | potRefreshTimerExpiry => cases h; exact trackerInv_settle_of_bookkept (timed _ stillTimed_potRefresh) hs
  | flowLowTimerExpiry => cases h; exact trackerInv_ite_settle (timed _ stillTimed_flowExpire) _ hs
  | runOnTimerExpiry => cases h; exact trackerInv_ite_settle (timed _ stillTimed_runOnExpire) _ hs
  | exhaustRefreshTimerExpiry => cases h; exact trackerInv_settle_of_bookkept (timed _ stillTimed_exhaustRefresh) hs
  | settleTimerExpiry => cases h; exact trackerInv_ite_settle bookkept_settleExpire _ hs
  | secondTimerExpiry => cases h; exact trackerInv_settle_of_bookkept bookkept_secondExpire hs
  | linkDown p => cases h; exact trackerInv_ite_settle (bookkept_linkLost p) _ hs
  | linkUp p => cases h; exact trackerInv_linkHeard p hs
  | telegramReceived p run => cases h; exact trackerInv_settle (trackerInv_receiveRun p run hs)
  | ageTimerExpiry e => cases h; exact trackerInv_ite_settle (bookkept_ageExpire _) _ hs
  | telegramBoundary p => cases h; exact trackerInv_settle_of_bookkept (bookkept_boundary p) hs
  | idleFillReception p => cases h; exact trackerInv_linkHeard p hs
  | _ => cases h; exact request _ _

/-- Settles O54: a command keeps the bookkeeping, and so does the millisecond of an empty queue. -/
theorem Settled.stepKeepsTracker : Obligations.StepKeepsTracker := by
  intro s t hs hstep
  unfold step at hstep
  split at hstep
  · rw [← Host.Outcome.next.inj hstep]
    exact trackerInv_tick hs
  · next c rest _ =>
    have hs' : TrackerInv { s with pending := rest } := trackerInv_of_trk (s := s) rfl hs
    exact trackerInv_exec c hs' hstep

end Sys2Proof.Proofs
end

section
/-! SUPPORT. The conveyor's commands: the reset, the encoder without an advance (R3 to R5), the eye's candidates and edges (R7, R12
to R14), the speed measurement (R6, R21) and the stall timer (R20). -/
namespace Sys2Proof.Proofs
open Sys2Proof Sys2Proof.Machine Sys2Proof.Safety

/-- Settles O48, by induction over the mailbox. -/
theorem Settled.eventsLeaveStill : Obligations.EventsLeaveStill := fun n s =>
  drain_observe (fun _ _ => rfl) (fun e t => (leavesStill_handle e t).still) n s

/-- Settles O3. -/
theorem Settled.deviceResetTracker : Obligations.DeviceResetTracker := by
  intro a b eye straps s
  refine ⟨deviceReset a b eye straps s, rfl, ?_⟩
  simp only [deviceReset, State.reset, and_self]

theorem loopCtx_reset (i : Nat) : State.reset.loopCtx i = {} := by
  by_cases h : i < 5
  · exact List.getD_replicate _ h
  · have : State.reset.heat.loops.length ≤ i := Nat.not_lt.mp h
    rw [State.loopCtx, List.getD_eq_default _ _ this]

theorem K_reset {i : Nat} (h : i < 5) (n : Nat) : State.reset.K i n = [0, 0, 0, 0, 50, 0, 0].getD n 0 :=
  congrArg (fun row => List.getD row n 0) (List.getD_replicate _ h)

/-- A loop at reset is disabled and so OFF, with no duty (R43, R45). -/
theorem loopInv_reset {i : Nat} (h : i < 5) : LoopInv State.reset i where
  state := by
    have hdisabled : State.reset.K i 5 = 0 := K_reset h 5
    rw [State.derivedLoopState, if_pos hdisabled, loopCtx_reset]
  duty := by rw [loopCtx_reset]; exact Nat.zero_le _
  rest := fun _ => by rw [loopCtx_reset]
  cold := fun _ _ => by rw [loopCtx_reset]
  manual := fun m hm => by rw [loopCtx_reset] at hm; cases hm
  integrator := by rw [loopCtx_reset]; exact Nat.zero_le _

theorem potInv_reset : PotInv State.reset where
  drive := fun h => absurd rfl h
  gate := fun h => nomatch h
  running := fun h => by simp [State.reset] at h
  jam := by simp [State.reset]
  pump := fun h => absurd rfl h
  molten := fun h => absurd rfl h

theorem exhaustInv_reset : ExhaustInv State.reset where
  demand := rfl
  fan := rfl
  timer := Nat.zero_le _
  rest := fun _ => ⟨rfl, rfl, rfl, rfl⟩
  taken := fun h => nomatch h

/-- At reset no line is driven, no record is held and none is published (R124, R125). -/
theorem linesInv_reset : LinesInv State.reset where
  spray := rfl
  eligible := rfl
  valve := fun h => nomatch h
  hold := rfl
  holding := rfl
  warn := rfl
  trip := rfl
  published := rfl
  held := fun _ => ⟨rfl, rfl⟩
  stopped := fun h => nomatch h
  stop := fun _ _ => .inr rfl
  permit := fun h => nomatch h
  permitWhole := .inr (.inr (.inr ⟨fun h => (nomatch h), fun h => (nomatch h.1)⟩))
  lampG := rfl
  lampA := rfl
  lampR := rfl

theorem queueInv_reset : QueueInv State.reset where
  downFifo := Nat.zero_le 4
  upFifo := Nat.zero_le 4
  downUrgent := List.nodup_nil
  downSlots := List.nodup_nil
  upUrgent := Nat.zero_le 8
  upNormal := Nat.zero_le 16
  upFair := Nat.zero_le 4
  downFair := Nat.zero_le 4

theorem alarmInv_reset : AlarmInv State.reset where
  once := List.nodup_nil
  room := Nat.zero_le 24
  own := fun _ hr => absurd hr List.not_mem_nil
  slot := fun _ hr => nomatch hr

/-- Settles O5, one invariant at a time. -/
theorem Settled.resetMeetsInvariants : Obligations.ResetMeetsInvariants :=
  ⟨trackerInv_of_empty rfl rfl rfl rfl rfl rfl fun c hc => absurd hc.symm (Option.some_ne_none c),
    ⟨rfl, fun _ h => loopInv_reset h⟩, potInv_reset, exhaustInv_reset, linesInv_reset, queueInv_reset, alarmInv_reset⟩

/-! The encoder. -/

theorem decodePulse_none {lastA lastB a b : Bool} (h : a ≠ lastA ↔ b ≠ lastB) :
    decodePulse lastA lastB a b = .none := by
  unfold decodePulse
  grind

theorem decodePulse_forward {lastA lastB a b : Bool}
    (h : (a ≠ lastA ∧ b = lastB ∧ a ≠ b) ∨ (a = lastA ∧ b ≠ lastB ∧ b = a)) :
    decodePulse lastA lastB a b = .forward := by
  unfold decodePulse
  grind

theorem decodePulse_reverse {lastA lastB a b : Bool}
    (h : (a ≠ lastA ∧ b = lastB ∧ a = b) ∨ (a = lastA ∧ b ≠ lastB ∧ b ≠ a)) :
    decodePulse lastA lastB a b = .reverse := by
  unfold decodePulse
  grind

/-- A full tenth of reverse travel, its test of the limit written out (R5). -/
theorem reverseTenth_eq (s : State) : reverseTenth s =
    if s.trk.revDist < 65535 ∧ s.trk.revDist + 1 = s.L 42 ∧ s.trk.condReverse = false then
      { s with
        trk.revResidue := 0, trk.revDist := min 65535 (s.trk.revDist + 1)
        trk.condReverse := true, events := s.events ++ [.raise .conveyorReverse 0 none] }
    else { s with trk.revResidue := 0, trk.revDist := min 65535 (s.trk.revDist + 1) } := by
  have hlimit : (s.trk.revDist < min 65535 (s.trk.revDist + 1) ∧ 0 < s.L 42 ∧
      min 65535 (s.trk.revDist + 1) = s.L 42 ∧ s.trk.condReverse = false) ↔
      s.trk.revDist < 65535 ∧ s.trk.revDist + 1 = s.L 42 ∧ s.trk.condReverse = false := by
    refine ⟨fun ⟨hmoved, _, hat, hc⟩ => ⟨by omega, by omega, hc⟩,
      fun ⟨hroom, hat, hc⟩ => ⟨by omega, by omega, by omega, hc⟩⟩
  unfold reverseTenth State.reverseLimit
  rw [satSucc_eq_min]
  simp only [hlimit]
  rfl

theorem reversePulse_eq (s : State) : reversePulse s =
    if 0 < s.trk.residue then { s with trk.residue := s.trk.residue - 1 }
    else if s.trk.revResidue + 1 < (if s.L 0 = 0 then 1 else s.L 0) then
      { s with trk.revResidue := s.trk.revResidue + 1 }
    else reverseTenth s := by
  have hscaler : s.scaler = if s.L 0 = 0 then 1 else s.L 0 := rfl
  unfold reversePulse
  rw [← hscaler]
  split
  · rfl
  · split
    · next hfull => rw [if_neg (Nat.not_lt.mpr hfull)]
    · next hshort => rw [if_pos (Nat.lt_of_not_le hshort)]

/-- Settles O6, by the decoding of the pulse. -/
theorem Settled.encoderWithoutAdvance : Obligations.EncoderWithoutAdvance := by
  refine ⟨fun a b s h => ?_, fun a b s hlevels hshort => ?_, fun a b s hlevels => ?_⟩
  all_goals refine congrArg (fun x => Host.Outcome.next (settle x)) ?_
  · unfold encoderLevels
    rw [decodePulse_none h]
  · unfold encoderLevels
    rw [decodePulse_forward hlevels]
    exact if_neg (Nat.not_le.mpr hshort)
  · unfold encoderLevels
    rw [decodePulse_reverse hlevels]
    dsimp only
    rw [reversePulse_eq, reverseTenth_eq]
    rfl

/-! The eye. -/

/-- Settles O8, by the cases of R7. -/
theorem Settled.eyeCandidate : Obligations.EyeCandidate := by
  intro blocked s h
  refine congrArg (fun x => Host.Outcome.next (settle x)) ?_
  unfold eyeLevel
  cases hcand : s.trk.candidate with
  | some c => rfl
  | none =>
    dsimp only
    split
    · rfl
    · next hne =>
      have hdebounce : s.debounce ≠ 0 := (h.resolve_right fun h => h.elim (fun h => h hcand) hne :)
      rw [if_neg hdebounce]

theorem post_post (s : State) (e f : Event) : (s.post e).post f = { s with events := s.events ++ [e, f] } := by
  simp [State.post]

/-- A leading edge that consumes the head announce (R12, R13). -/
theorem leadingEdge_announced {p : Pos} {s : State} {a : Announce} {rest : List Announce}
    (hroom : ¬16 ≤ s.trk.track.length) (hann : s.trk.announces = a :: rest) : leadingEdge p s =
      { s with
        trk.announces := rest, trk.nextTag := s.trk.nextTag + 1
        trk.entered := s.trk.entered + 1, trk.lastEntered := some a.row
        trk.track := s.trk.track ++ [{
          tag := s.trk.nextTag, recipe := some a.row, id := a.id, lead := p, entryTime := s.line.clock,
          flux := if s.P a.row 2 = 1 then .pending else .none }]
        events := s.events ++ [.announceChange, .recordChange true] } := by
  have hbinding : s.binding = { recipe := some a.row, id := a.id, unannounced := false } := by
    rw [State.binding, hann]
  have htail : s.trk.announces.tail = rest := by rw [hann, List.tail_cons]
  unfold leadingEdge
  refine (if_neg hroom).trans ?_
  dsimp only
  rw [hbinding, if_neg Bool.false_ne_true, post_post, appendBoard, htail]
  rfl

/-- A leading edge with no announce, its record bound by the policy (R13). -/
theorem leadingEdge_unannounced {p : Pos} {s : State} {row : Option Row} (hroom : ¬16 ≤ s.trk.track.length)
    (hann : s.trk.announces = []) (hrow : (if s.L 17 = 0 ∧ s.rowDefined 0 = true then some 0 else none) = row) :
    leadingEdge p s =
      { s with
        trk.nextTag := s.trk.nextTag + 1
        trk.entered := s.trk.entered + 1, trk.lastEntered := row
        trk.pins := if row = none then s.trk.pins else s.trk.pins.set 0 (s.trk.pins.getD 0 0 + 1)
        trk.track := s.trk.track ++ [{
          tag := s.trk.nextTag, recipe := row, id := [], lead := p, entryTime := s.line.clock,
          flux := if row ≠ none ∧ s.P 0 2 = 1 then .pending else .none, flags.unannounced := true }]
        events := s.events ++ [.raise .unannounced s.trk.nextTag.toNat none, .recordChange true] } := by
  have hbinding : s.binding = { recipe := row, id := [], unannounced := true } := by
    rw [State.binding, hann, ← hrow]
    rfl
  have htail : s.trk.announces.tail = s.trk.announces := by rw [hann, List.tail_nil]
  have hpins : pin s.trk.pins row = if row = none then s.trk.pins else s.trk.pins.set 0 (s.trk.pins.getD 0 0 + 1) := by
    rw [← hrow]
    split <;> rfl
  have hflux : s.createdFlux row = if row ≠ none ∧ s.P 0 2 = 1 then .pending else .none := by
    rw [← hrow]
    split <;> simp [State.createdFlux]
  unfold leadingEdge
  refine (if_neg hroom).trans ?_
  dsimp only
  rw [hbinding, if_pos rfl, State.raise, post_post, appendBoard, htail, State.newBoard, hflux, if_pos rfl, hpins]

/-- A confirmed leading edge (R7, R12, R13). -/
theorem confirmEdge_blocked (p : Pos) (s : State) :
    confirmEdge { position := p, blocked := true } s = leadingEdgeAt p s := by
  unfold confirmEdge leadingEdgeAt
  dsimp only
  rw [if_pos rfl]
  by_cases hfull : 16 ≤ s.trk.track.length
  · rw [if_pos hfull]
    exact if_pos hfull
  · rw [if_neg hfull]
    cases hann : s.trk.announces with
    | cons a rest => exact leadingEdge_announced hfull rfl
    | nil => exact leadingEdge_unannounced hfull rfl rfl

/-- The conditions of a trailing edge that clear and raise at once, the mailbox written out (R14, R19). -/
theorem endEyeBlocked_raiseLengths (r : BoardRecord) (len : Nat) (s : State) :
    endEyeBlocked r.tag (raiseLengths r len s) = { s with
      trk.condEye := if s.trk.condEye = some r.tag then none else s.trk.condEye
      events := s.events ++ (if len < s.L 15 then [.raise .shortBoard r.tag.toNat none] else []) ++
        (if s.tooLong r len then [.raise .overlength r.tag.toNat none] else []) ++
        (if s.trk.condEye = some r.tag then [.clear .eyeBlocked r.tag.toNat] else []) } := by
  have hlengths : raiseLengths r len s = { s with
      events := s.events ++ (if len < s.L 15 then [.raise .shortBoard r.tag.toNat none] else []) ++
        (if s.tooLong r len then [.raise .overlength r.tag.toNat none] else []) } := by
    have hmin : s.minLength = s.L 15 := rfl
    unfold raiseLengths
    rw [hmin]
    by_cases hshort : len < s.L 15 <;> by_cases hlong : s.tooLong r len = true <;>
      simp [hshort, hlong, State.raise, State.post]
  unfold endEyeBlocked
  rw [hlengths]
  by_cases heye : s.trk.condEye = some r.tag
  · simp [heye, State.clear, State.post]
  · simp [heye]

/-- A confirmed trailing edge (R7, R14, R16, R19). -/
theorem confirmEdge_clear (p : Pos) (s : State) :
    confirmEdge { position := p, blocked := false } s = trailingEdgeAt p s := by
  unfold confirmEdge trailingEdge trailingEdgeAt
  dsimp only
  rw [if_neg Bool.false_ne_true]
  change (match s.trk.track.reverse.find? fun r => r.trail.isNone with | none => _ | some r => _) = _
  cases s.trk.track.reverse.find? fun r => r.trail.isNone with
  | none => rfl
  | some r =>
    dsimp only
    rw [testExits_eq_exitsTaken, endEyeBlocked_raiseLengths]
    rfl

/-- The whole advance, whatever the eye's candidate (R4). -/
theorem positionAdvance_eq_advanceEnds (a b : Bool) (s : State) :
    positionAdvance { s with trk.encA := a, trk.encB := b } = advanceEnds (testCandidate (advanceBegins a b s)) := by
  unfold positionAdvance
  dsimp only
  rw [advanceBegins_eq, testEyeBlocked_eq_eyeTested, testExits_eq_exitsTaken, endStall_eq_stallOver]
  rfl

/-- An advance that brings a candidate to the debounce distance confirms it (R4, R7). -/
theorem exec_advance_confirms {a b : Bool} {s : State} {c : Candidate} (hlevels : forwardLevels a b s)
    (hfull : (if s.L 0 = 0 then 1 else s.L 0) ≤ s.trk.residue + 1) (hcand : s.trk.candidate = some c)
    (hfar : s.L 1 ≤ (s.trk.position + 1 - c.position).toNat) :
    exec (.encoderTransition a b) s = .next (settle (advanceEnds (confirmEdge c (advanceBegins a b s)))) := by
  have hconfirms : testCandidate (advanceBegins a b s) = confirmEdge c (advanceBegins a b s) := by
    have hcand' : (advanceBegins a b s).trk.candidate = some c := hcand
    unfold testCandidate
    rw [hcand']
    exact if_pos hfar
  rw [← hconfirms, ← positionAdvance_eq_advanceEnds, ← encoderLevels_advance hlevels hfull]
  rfl

/-- With a debounce distance of 0 a change of the eye is confirmed at once (R7). -/
theorem exec_eyeChange_confirms {blocked : Bool} {s : State} (hdebounce : s.L 1 = 0) (hcand : s.trk.candidate = none)
    (hne : blocked ≠ s.trk.eyeBlocked) :
    exec (.eyeChange blocked) s = .next (settle (confirmEdge { position := s.trk.position, blocked } s)) := by
  refine congrArg (fun x => Host.Outcome.next (settle x)) ?_
  unfold eyeLevel
  rw [hcand]
  dsimp only
  rw [if_neg hne]
  exact if_pos hdebounce

/-- Settles O9, by the confirmation of a candidate at once or at an advance. -/
theorem Settled.leadingEdge : Obligations.LeadingEdge := by
  refine ⟨fun s hdebounce hcand heye => ?_, fun a b s p hlevels hfull hcand hfar => ?_⟩
  · rw [← confirmEdge_blocked]
    exact exec_eyeChange_confirms hdebounce hcand (by simp [heye])
  · rw [← confirmEdge_blocked]
    exact exec_advance_confirms hlevels hfull hcand hfar

/-- Settles O10, by the confirmation of a candidate at once or at an advance. -/
theorem Settled.trailingEdge : Obligations.TrailingEdge := by
  refine ⟨fun s hdebounce hcand heye => ?_, fun a b s p hlevels hfull hcand hfar => ?_⟩
  · rw [← confirmEdge_clear]
    exact exec_eyeChange_confirms hdebounce hcand (by simp [heye])
  · rw [← confirmEdge_clear]
    exact exec_advance_confirms hlevels hfull hcand hfar

/-! The timers. -/

theorem stallArmed_iff (s : State) : s.stallArmed = true ↔
    s.trk.track ≠ [] ∧ s.pins.hold = false ∧ 0 < s.L 41 ∧ s.trk.condStall = false := by
  simp [State.stallArmed, stallCounts_iff, State.stallMs, and_assoc]

/-- Settles O11, by the cases of R21 and by what arms the stall timer. -/
theorem Settled.trackerTimers : Obligations.TrackerTimers := by
  refine ⟨fun s => ?_, fun s => ?_⟩
  · refine congrArg (fun x => Host.Outcome.next (settle x)) ?_
    extract_lets v off trk u
    have hoff : State.offends { s with trk.speed := v, trk.advances := 0, trk.measTimer := 0 } = off := rfl
    unfold measureSpeed speedCheck
    rw [hoff]
    simp only [u, trk]
    cases s.trk.track.find? off with
    | none =>
      cases s.trk.condSpeed with
      | none => rfl
      | some t => exact post_post _ _ _
    | some r =>
      cases s.trk.condSpeed with
      | none => exact post_post _ _ _
      | some t => rfl
  · refine congrArg Host.Outcome.next ?_
    simp only [stallArmed_iff]
    rfl

end Sys2Proof.Proofs
end

section
/-! SUPPORT. The changeover hold and PERMIT at an evaluation (R131 to R133). -/
namespace Sys2Proof.Proofs
open Sys2Proof Sys2Proof.Machine Sys2Proof.Safety

theorem trailAtLeast_eq_beyond (s : State) (r : BoardRecord) (d : Nat) :
    s.trailAtLeast r d = beyond s.trk.position r d := rfl

/-- The prospective recipe (R132). -/
theorem prospective_eq (s : State) : s.prospective = match s.trk.announces with
    | a :: _ => some a.row
    | [] => if s.L 17 = 0 ∧ s.rowDefined 0 = true then some 0 else none := rfl

theorem zonesClear_eq (s : State) : s.zonesClear = s.trk.track.all fun r => beyond s.trk.position r (s.L 11) := rfl

theorem zonesReady_eq (s : State) (p : Row) : s.zonesReady p = [0, 1, 2, 3].all fun i =>
    decide (s.K i 5 = 0 ∨ ((s.loopCtx i).inBand = true ∧
      (s.trk.announces = [] ∨ (s.loopCtx i).target = s.P p (6 + i)))) := by
  have four : List.range 4 = [0, 1, 2, 3] := rfl
  unfold State.zonesReady
  rw [four]
  refine congrArg (List.all [0, 1, 2, 3]) (funext fun i => ?_)
  rw [Bool.eq_iff_iff]
  simp

/-- PERMIT in the terms of R131. -/
theorem permitNow_eq (s : State) : s.permitNow = decide (s.line.state = .ready ∧ s.trk.track.length < 16 ∧
    (match s.trk.track.getLast? with
      | none => true
      | some r => beyond s.trk.position r (s.L 16)) = true ∧ s.line.changeover = false) := by
  have hgap : s.gapOpen = match s.trk.track.getLast? with
      | none => true
      | some r => beyond s.trk.position r (s.L 16) := rfl
  unfold State.permitNow
  have hcapacity : Config.trackCapacity = 16 := rfl
  rw [← hgap, hcapacity, Bool.eq_iff_iff]
  simp [and_assoc]

/-- The state of an evaluation of the changeover hold before PERMIT is derived (R133). -/
def holdEvaluated (s : State) : State :=
  match s.prospective with
  | none => { s with line.changeover := false, line.holdRecipe := none }
  | some p =>
    if s.trk.lastEntered = some p ∨ s.line.admitted = some p then
      { s with line.changeover := false, line.holdRecipe := none }
    else if (s.zonesClear && s.zonesReady p) = true then
      { s with line.changeover := false, line.holdRecipe := none, line.admitted := some p }
    else { s with line.changeover := true, line.holdRecipe := some p }

theorem changeoverEval_eq (s : State) : changeoverEval s = derivePermit (holdEvaluated s) := by
  unfold changeoverEval State.changeoverNow holdEvaluated
  cases s.prospective with
  | none => rfl
  | some p =>
    dsimp only
    split
    · rfl
    · split <;> rfl

/-- An evaluation of the hold writes the hold, its recipe and the admitted one. -/
theorem holdEvaluated_frame (s : State) : holdEvaluated s = { s with
    line.changeover := (holdEvaluated s).line.changeover, line.holdRecipe := (holdEvaluated s).line.holdRecipe
    line.admitted := (holdEvaluated s).line.admitted } := by
  unfold holdEvaluated
  split
  · rfl
  · split
    · rfl
    · split <;> rfl

/-- Settles O20, from the evaluation's table and PERMIT's conditions. -/
theorem Settled.changeoverHold : Obligations.ChangeoverHold := by
  refine ⟨fun s => ?_, fun s => ⟨rfl, rfl, rfl, rfl⟩⟩
  extract_lets P line u gap pins
  have hu : holdEvaluated s = u := by
    have hP : s.prospective = P := rfl
    unfold holdEvaluated
    rw [hP]
    simp only [zonesClear_eq, zonesReady_eq, Bool.and_eq_true]
    rfl
  have hpermit : u.permitNow = decide (s.line.state = .ready ∧ s.trk.track.length < 16 ∧ gap = true ∧
      u.line.changeover = false) := by
    rw [permitNow_eq, ← hu, holdEvaluated_frame]
    rfl
  rw [changeoverEval_eq, hu, derivePermit, hpermit]

end Sys2Proof.Proofs
end

section
/-! SUPPORT. The directives on the tracker's queues: ANNOUNCE BOARD (R9), WITHDRAW ANNOUNCES (R10), PURGE TRACK (R23), and
what a taken request leaves alone as it is answered. -/
namespace Sys2Proof.Proofs
open Sys2Proof Sys2Proof.Machine Sys2Proof.Safety

theorem post_of_quiet {s : State} (h : s.events = []) (e : Event) :
    s.post e = { s with events := [e] } := by
  rw [State.post, h, List.nil_append]

/-! A taken request with one directive. -/

section Request
variable {r : Requester} {e : Nat} {s : State} {c : Instr} {d : Directive}

/-- A directive command whose result has room is its directive in the taken state, its events and its answer (R146, R172). -/
theorem exec_of_directive (h : Accepts r e s) (hc : exec c s = .next (settle (receiveDirective r d s)))
    (hd : largestResult d ≤ 59) {a : Answer} (ha : directive e r.src.toNat true d (taken s) = a) :
    exec c s = .next (settle (answered r a.bytes (settle a.state))) := by
  rw [hc, receiveDirective_taken h d hd, ha]

/-- The same for a directive that answers a result alone. -/
theorem exec_of_plain (h : Accepts r e s) (hc : exec c s = .next (settle (receiveDirective r d s)))
    (hd : largestResult d ≤ 59) {res : Result} {t : State}
    (ha : directive e r.src.toNat true d (taken s) = plain (res, t)) :
    exec c s = .next (settle (answered r [resultByte res] (settle t))) :=
  exec_of_directive h hc hd ha

/-- The same for one that is done. -/
theorem exec_of_done (h : Accepts r e s) (hc : exec c s = .next (settle (receiveDirective r d s)))
    (hd : largestResult d ≤ 59) {t : State} (ha : directive e r.src.toNat true d (taken s) = plain (.done, t)) :
    exec c s = .next (settle (answered r [0] (settle t))) :=
  exec_of_plain (res := .done) h hc hd ha

/-- The same where the directive changes nothing. -/
theorem exec_of_read (h : Accepts r e s) (hc : exec c s = .next (settle (receiveDirective r d s)))
    (hd : largestResult d ≤ 59) {a : Answer} (ha : directive e r.src.toNat true d (taken s) = a)
    (hstate : a.state = taken s) : exec c s = .next (settle (answered r a.bytes (taken s))) := by
  rw [exec_of_directive h hc hd ha, hstate, settle_quiet (taken_events h)]

end Request

/-! The end of a taken request. -/

/-- Answering closes the address and writes the UP queue: nothing else of `still` (R152, R154). -/
theorem still_answered (r : Requester) (bytes : List Byte) (s : State) :
    still (answered r bytes s) = still { s with net.addressOpen := false } :=
  still_of_stillTimed (stillTimed_wakeUp _)

theorem stallTimer_answered (r : Requester) (bytes : List Byte) (s : State) :
    (answered r bytes s).trk.stallTimer = s.trk.stallTimer :=
  stallTimer_of_stillTimed (s := { s with net.addressOpen := false }) (stillTimed_wakeUp _)

/-- The end of a directive's request, its events taken, as `still` shows it. -/
theorem still_settle_answered (r : Requester) (bytes : List Byte) (s : State) :
    still (settle (answered r bytes (settle s))) = still { s with net.addressOpen := false } := by
  rw [still_settle, still_answered]
  exact congrArg (fun x : State => { x with net.addressOpen := false }) (still_settle s)

theorem stallTimer_settle_answered (r : Requester) (bytes : List Byte) {s : State} (h : s.trk.stallTimer = 0) :
    (settle (answered r bytes (settle s))).trk.stallTimer = 0 :=
  settle_stallTimer ((stallTimer_answered _ _ _).trans (settle_stallTimer h))

/-! Announces. -/

/-- The refusals of ANNOUNCE BOARD in the order of R9. -/
theorem announceRefusal_eq (row : Nat) (id : List Byte) (s : State) : announceRefusal row id s =
    if row ≤ 31 ∧ id.length ≤ 16 ∧ s.rowDefined (Fin.ofNat 32 row) = true then
      if s.trk.announces.length < 8 then none else some .full
    else some .range := by
  unfold announceRefusal
  by_cases hrange : 31 < row ∨ 16 < id.length
  · rw [if_pos hrange, if_neg (by omega)]
  · rw [if_neg hrange]
    by_cases hrow : s.rowDefined (Fin.ofNat 32 row) = true
    · have hchecks : row ≤ 31 ∧ id.length ≤ 16 ∧ s.rowDefined (Fin.ofNat 32 row) = true :=
        ⟨by omega, by omega, hrow⟩
      rw [if_neg (Bool.not_eq_false _ ▸ hrow), if_pos hchecks]
      by_cases hroom : s.trk.announces.length < 8
      · rw [if_pos hroom]
        exact if_neg (Nat.not_le.mpr hroom)
      · rw [if_neg hroom]
        exact if_pos (Nat.not_lt.mp hroom)
    · rw [if_pos (Bool.eq_false_of_not_eq_true hrow), if_neg fun h => hrow h.2.2]

theorem announceBoard_refused {entry row : Nat} {id : List Byte} {s : State} {reason : Reason}
    (h : announceRefusal row id s = some reason) :
    Machine.announceBoard entry row id s = (.refused reason, s.raise .announceRejected entry none) := by
  rw [Machine.announceBoard, h]

theorem announceBoard_taken {entry row : Nat} {id : List Byte} {s : State} (hquiet : s.events = []) (hrow : row ≤ 31)
    (h : announceRefusal row id s = none) :
    Machine.announceBoard entry row id s = (.done, { s with
      trk.announces := s.trk.announces ++ [{ row := Fin.ofNat 32 row, id, arrival := s.time }]
      trk.pins := s.trk.pins.set row (s.trk.pins.getD row 0 + 1)
      events := [.announceChange] }) := by
  have hval : (Fin.ofNat 32 row).val = row := Nat.mod_eq_of_lt (Nat.lt_succ_of_le hrow)
  rw [Machine.announceBoard, h]
  dsimp only [pin]
  rw [hval, post_of_quiet (by exact hquiet)]

/-- Settles O38, by the first check that fails. -/
theorem Settled.announceBoard : Obligations.AnnounceBoard := by
  intro r e s row id h
  have hquiet : (taken s).events = [] := taken_events h
  have refused {reason : Reason} (hr : announceRefusal row.toNat id (taken s) = some reason) :
      exec (.announceBoard r row id) s = .next (settle (answered r [resultByte (.refused reason)]
        (settle { taken s with events := [.raise .announceRejected e none] }))) := by
    have hanswer : directive e r.src.toNat true (.announceBoard row id) (taken s) =
        plain (.refused reason, { taken s with events := [.raise .announceRejected e none] }) :=
      congrArg plain ((announceBoard_refused hr).trans (congrArg _ (post_of_quiet hquiet _)))
    exact exec_of_plain h rfl (by simp [largestResult]) hanswer
  have hrefusal : announceRefusal row.toNat id (taken s) = _ := announceRefusal_eq row.toNat id s
  by_cases hchecks : row.toNat ≤ 31 ∧ id.length ≤ 16 ∧ s.rowDefined (Fin.ofNat 32 row.toNat) = true
  · rw [if_pos hchecks] at hrefusal ⊢
    by_cases hroom : s.trk.announces.length < 8
    · rw [if_pos hroom] at hrefusal ⊢
      have hanswer : directive e r.src.toNat true (.announceBoard row id) (taken s) = plain (.done, { taken s with
          trk.announces := s.trk.announces ++ [{ row := Fin.ofNat 32 row.toNat, id, arrival := s.time }]
          trk.pins := s.trk.pins.set row.toNat (s.trk.pins.getD row.toNat 0 + 1)
          events := [.announceChange] }) :=
        congrArg plain (announceBoard_taken hquiet hchecks.1 hrefusal)
      exact exec_of_done h rfl (by simp [largestResult]) hanswer
    · rw [if_neg hroom] at hrefusal ⊢
      exact refused (reason := .full) hrefusal
  · rw [if_neg hchecks] at hrefusal ⊢
    exact refused (reason := .range) hrefusal

/-- Settles O39, by whether an announce is queued. -/
theorem Settled.withdrawAnnounces : Obligations.WithdrawAnnounces := by
  intro r e s h
  have hquiet : (taken s).events = [] := taken_events h
  rw [exec_of_directive h (c := .withdrawAnnounces r) rfl (by simp [largestResult]) rfl]
  refine congrArg (fun x => Host.Outcome.next (settle (answered r [0] x))) ?_
  show settle (Machine.withdrawAnnounces (taken s)) = _
  unfold Machine.withdrawAnnounces
  by_cases hnone : s.trk.announces = []
  · rw [if_pos hnone]
    refine (congrArg settle (if_pos (List.isEmpty_iff.mpr hnone))).trans (settle_quiet hquiet)
  · rw [if_neg hnone]
    refine congrArg settle ((if_neg fun hempty => hnone (List.isEmpty_iff.mp hempty)).trans ?_)
    exact post_of_quiet (by exact hquiet) _

/-! PURGE TRACK. -/

/-- A condition on the eye that a purge clears (R23). -/
theorem clearEye_eq (s : State) :
    (match s.trk.condEye with
      | none => s
      | some tag => State.clear { s with trk.condEye := none } .eyeBlocked tag.toNat) =
    { s with
      trk.condEye := none
      events := s.events ++ match s.trk.condEye with
        | none => []
        | some tag => [.clear .eyeBlocked tag.toNat] } := by
  cases heye : s.trk.condEye with
  | none =>
    have hstands : ({ s with trk.condEye := none } : State) = s := by rw [← heye]
    rw [List.append_nil, hstands]
  | some tag => rfl

/-- A condition on the speed that a purge clears, after what it did for the eye (R23). -/
theorem clearSpeed_of_eq {s u : State} (h : s = u) :
    (match s.trk.condSpeed with
      | none => s
      | some tag => State.clear { s with trk.condSpeed := none } .speedOut tag.toNat) =
    { u with
      trk.condSpeed := none
      events := u.events ++ match u.trk.condSpeed with
        | none => []
        | some tag => [.clear .speedOut tag.toNat] } := by
  subst h
  cases hspeed : s.trk.condSpeed with
  | none =>
    have hstands : ({ s with trk.condSpeed := none } : State) = s := by rw [← hspeed]
    rw [List.append_nil, hstands]
  | some tag => rfl

/-- The conditions a purge clears, the mailbox written out (R23). -/
theorem purgeConditions_eq (s : State) : purgeConditions s = stallOver { s with
    trk.condEye := none, trk.condSpeed := none
    events := s.events ++
      (match s.trk.condEye with
        | none => []
        | some tag => [.clear .eyeBlocked tag.toNat]) ++
      (match s.trk.condSpeed with
        | none => []
        | some tag => [.clear .speedOut tag.toNat]) } :=
  (endStall_eq_stallOver _).trans (congrArg stallOver (clearSpeed_of_eq (clearEye_eq s)))

/-- The state of a purge with its notices offered, its conditions cleared and its record change reported (R23). -/
def trackPurged (s : State) : State :=
  let u := s.trk.track.foldl boardPurged s
  let v := purgeConditions { u with trk.purged := s.trk.purged + BitVec.ofNat 16 s.trk.track.length }
  { v with events := v.events ++ if s.trk.track = [] then [] else [.recordChange false] }

theorem purgeTrack_allowed {s : State} (h : purgeAllowed s.line.state = true) :
    Machine.purgeTrack s = (.done, trackPurged s) := by
  unfold Machine.purgeTrack trackPurged
  rw [if_neg (by simp [h])]
  refine congrArg (Prod.mk Result.done) ?_
  have hfold : s.trk.track.foldl (fun t r => purgeRecord r t) s = s.trk.track.foldl boardPurged s := rfl
  simp only [List.isEmpty_iff, hfold]
  split
  · rw [List.append_nil]
  · rfl

theorem purgeTrack_refused {s : State} (h : purgeAllowed s.line.state = false) :
    Machine.purgeTrack s = (.refused .state, s) := if_pos h

theorem purgeAllowed_iff (st : LineState) : purgeAllowed st = true ↔ st = .stopped ∨ st = .idle ∨ st = .service := by
  simp [purgeAllowed, or_assoc]

/-- What a purge leaves of the tracker (R23), and alone. -/
theorem trackPurged_frame (s : State) : trackPurged s = { s with
    trk.track := [], trk.purged := s.trk.purged + BitVec.ofNat 16 s.trk.track.length, trk.pins := (trackPurged s).trk.pins
    trk.condEye := none, trk.condSpeed := none, trk.condStall := false, trk.stallTimer := 0
    net := (trackPurged s).net, events := (trackPurged s).events } := by
  have hfold : s.trk.track.foldl boardPurged s = s.trk.track.foldl (fun t r => purgeRecord r t) s := rfl
  unfold trackPurged
  dsimp only
  rw [purgeConditions_eq, hfold, foldl_purgeRecord_frame, List.drop_length]
  rfl

/-- Settles O40, from the tracker after a purge and what the request and its events leave alone. -/
theorem Settled.purgeTrack : Obligations.PurgeTrack := by
  intro r e s h
  have allowed (hline : s.line.state = .stopped ∨ s.line.state = .idle ∨ s.line.state = .service) :
      exec (.purgeTrack r) s = .next (settle (answered r [0] (settle (trackPurged (taken s))))) :=
    exec_of_done (d := .purgeTrack) h rfl (by simp [largestResult])
      (congrArg plain (purgeTrack_allowed ((purgeAllowed_iff (taken s).line.state).mpr hline)))
  refine ⟨fun hline => ⟨_, allowed hline, ?_⟩, fun hline => ?_, fun hline => ?_⟩
  · have hframe := trackPurged_frame (taken s)
    have hpurged := congrArg State.trk hframe
    have hstill := still_settle_answered r [0] (trackPurged (taken s))
    have hstall := stallTimer_settle_answered r [0] (congrArg Tracker.stallTimer hpurged)
    generalize settle (answered r [0] (settle (trackPurged (taken s)))) = t at hstill hstall ⊢
    have htrk : { t.trk with stallTimer := 0, track := t.trk.track.map boardCore } =
        { (trackPurged (taken s)).trk with stallTimer := 0, track := (trackPurged (taken s)).trk.track.map boardCore } :=
      congrArg State.trk hstill
    rw [hpurged] at htrk
    have hlist : t.trk.track.map boardCore = [] := congrArg Tracker.track htrk
    exact ⟨List.map_eq_nil_iff.mp hlist, (congrArg Tracker.purged htrk :), (congrArg Tracker.condEye htrk :),
      (congrArg Tracker.condSpeed htrk :), (congrArg Tracker.condStall htrk :), hstall, (congrArg Tracker.announces htrk :),
      (congrArg Tracker.position htrk :), (congrArg Tracker.residue htrk :), (congrArg Tracker.nextTag htrk :),
      (congrArg Tracker.eyeBlocked htrk :), (congrArg Tracker.candidate htrk :), (congrArg Tracker.entered htrk :),
      (congrArg Tracker.exited htrk :), (congrArg Tracker.lastEntered htrk :),
      (congrArg State.tab hstill).trans (congrArg State.tab hframe :),
      (congrArg State.time hstill).trans (congrArg State.time hframe :)⟩
  · rw [allowed hline]
    refine congrArg (fun x => Host.Outcome.next (settle (answered r [0] (settle x)))) ?_
    have hgone : (s.trk.track.foldl boardPurged (taken s)).trk = _ :=
      congrArg State.trk (foldl_purgeRecord_frame s.trk.track (taken s))
    have heye : (s.trk.track.foldl boardPurged (taken s)).trk.condEye = s.trk.condEye :=
      (congrArg Tracker.condEye hgone :)
    have hspeed : (s.trk.track.foldl boardPurged (taken s)).trk.condSpeed = s.trk.condSpeed :=
      (congrArg Tracker.condSpeed hgone :)
    rw [← heye, ← hspeed]
    unfold trackPurged
    dsimp only
    rw [purgeConditions_eq]
    rfl
  · have hrefused : purgeAllowed s.line.state = false := by
      rcases hline with hst | hst | hst <;> rw [hst] <;> rfl
    have hkept : directive e r.src.toNat true .purgeTrack (taken s) = plain (.refused .state, taken s) :=
      congrArg plain (purgeTrack_refused hrefused)
    exact exec_of_read h rfl (by simp [largestResult]) hkept rfl

end Sys2Proof.Proofs
end

section
/-! SUPPORT. The bytes of fields and images (R144, R147, R148, R176) and the directives that read: IDENTIFY, READ TRACK, READ
ALARMS. -/
namespace Sys2Proof.Proofs
open Sys2Proof Sys2Proof.Machine Sys2Proof.Safety

/-! Fields. -/

theorem be_one (v : Nat) : be 1 v = [BitVec.ofNat 8 v] := by
  simp [be]

@[simp] theorem length_be (n v : Nat) : (be n v).length = n := by
  induction n with
  | zero => rfl
  | succ n ih => simp [be, ih]

@[simp] theorem length_beSigned (n : Nat) (v : Int) : (beSigned n v).length = n := length_be _ _

/-- A field of n bytes holds its number modulo 256 to the n. -/
theorem be_mod (n v : Nat) : be n (v % 256 ^ n) = be n v := by
  induction n generalizing v with
  | zero => rfl
  | succ n ih =>
    have hrest : be n (v % 256 ^ (n + 1)) = be n v := by
      rw [← ih (v % 256 ^ (n + 1)), Nat.mod_mod_of_dvd _ (pow_dvd_pow 256 (Nat.le_succ n)), ih]
    have hhead : BitVec.ofNat 8 (v % 256 ^ (n + 1) / 256 ^ n) = BitVec.ofNat 8 (v / 256 ^ n) := by
      apply BitVec.eq_of_toNat_eq
      rw [BitVec.toNat_ofNat, BitVec.toNat_ofNat, pow_succ, Nat.mod_mul_right_div_self]
      exact Nat.mod_mod _ _
    rw [be, be, hrest, hhead]

/-- A natural number in a signed field. -/
theorem beSigned_natCast (n v : Nat) : beSigned n (v : Int) = be n v := by
  rw [beSigned, ← Int.natCast_mod, Int.toNat_natCast, be_mod]

/-! Flag bytes. -/

theorem ofNat_bitAt (b : Bool) (i : Nat) : BitVec.ofNat 8 (bitAt b i) = if b = true then BitVec.ofNat 8 (2 ^ i) else 0 := by
  cases b <;> rfl

/-- A flag byte is the byte of the sum of its bits. -/
theorem flagByte_eq (flags : List Bool) :
    flagByte flags = BitVec.ofNat 8 (flags.zipIdx.map fun p => bitAt p.1 p.2).sum := by
  unfold flagByte
  induction flags.zipIdx with
  | nil => rfl
  | cons p l ih => rw [List.map_cons, List.sum_cons, ih, List.map_cons, List.sum_cons, BitVec.ofNat_add, ofNat_bitAt]

theorem optBytes_eq_whenPresent (n : Nat) (v : Option Int) : optBytes (beSigned n) v = whenPresent n v := by
  cases v <;> rfl

theorem optBytes_natCast {α : Type} (n : Nat) (f : α → Nat) (v : Option α) :
    optBytes (fun a => be n (f a)) v = whenPresent n (v.map fun a => (f a : Int)) := by
  cases v with
  | none => rfl
  | some a => exact (beSigned_natCast n (f a)).symm

/-! Images. -/

theorem clockBytes_eq (c : ClockValue) : clockBytes c =
    be 2 c.days ++ [BitVec.ofNat 8 c.hours, BitVec.ofNat 8 c.minutes, BitVec.ofNat 8 c.seconds] := by
  simp [clockBytes, be_one]

theorem fluxStateNum_eq_idxOf (f : FluxState) :
    fluxStateNum f = [FluxState.none, .pending, .spraying, .done, .partially, .missed].idxOf f := by
  cases f <;> rfl

theorem alarmStateNum_eq_idxOf (a : AlarmState) : alarmStateNum a = [AlarmState.active, .acked, .cleared].idxOf a := by
  cases a <;> rfl

theorem lineStateNum_eq_idxOf (st : LineState) :
    lineStateNum st = [LineState.idle, .warmup, .ready, .drain, .stopped, .service].idxOf st := by
  cases st <;> rfl

/-- The raise value's bytes, inside the signed field (R147). -/
theorem raiseValueBytes_eq {v : Option Int} (h : ∀ x, v = some x → -2147483648 ≤ x ∧ x ≤ 2147483647) :
    raiseValueBytes v = beSigned 4 (v.getD 0) := by
  cases v with
  | none => rfl
  | some x => exact if_pos (h x rfl)

theorem alarmFlagByte_eq (a : AlarmRecord) : alarmFlagByte a = [BitVec.ofNat 8 (severityNum a.severity) +
    flagByte [false, false, a.masked] + BitVec.ofNat 8 (8 * [AlarmState.active, .acked, .cleared].idxOf a.state) +
    flagByte [false, false, false, false, false, a.value.isSome]] := by
  rw [alarmFlagByte, be_one, flagByte_eq, flagByte_eq, ← alarmStateNum_eq_idxOf, ← BitVec.ofNat_add,
    ← BitVec.ofNat_add, ← BitVec.ofNat_add]
  simp [bitAt]

theorem ofNat_boardByteRecipe (b : BoardRecord) : BitVec.ofNat 8 (boardByteRecipe b) =
    BitVec.ofNat 8 ((b.recipe.map fun row => row.val).getD 0) +
      flagByte [false, false, false, false, false, b.recipe.isSome, b.trail.isSome, b.waveEntry.isSome] := by
  rw [flagByte_eq, ← BitVec.ofNat_add]
  simp [boardByteRecipe, bitAt, Nat.add_assoc]

theorem ofNat_boardByteFlags (b : BoardRecord) : BitVec.ofNat 8 (boardByteFlags b) =
    flagByte [b.flags.unannounced, b.flags.short, b.flags.overlength, b.flags.speedOut, b.flags.dwellOut,
      b.flags.waveInterrupted, b.flags.purged, b.dwell.isSome] := by
  rw [flagByte_eq]
  simp [boardByteFlags, Nat.add_assoc]

theorem ofNat_boardByteFlux (b : BoardRecord) : BitVec.ofNat 8 (boardByteFlux b) =
    BitVec.ofNat 8 ([FluxState.none, .pending, .spraying, .done, .partially, .missed].idxOf b.flux) +
      flagByte [false, false, false, (exposureOf b 1).isSome, (exposureOf b 2).isSome, (exposureOf b 3).isSome,
        (exposureOf b 4).isSome, b.waveTemp.isSome] := by
  rw [flagByte_eq, ← BitVec.ofNat_add, ← fluxStateNum_eq_idxOf]
  simp [boardByteFlux, bitAt, Nat.add_assoc]

/-- The bytes of a zone's exposure (R148). -/
theorem optBytes_exposure (x : Option Exposure) : optBytes (fun e => beSigned 2 e.low ++ beSigned 2 e.high) x =
    whenPresent 2 (x.map fun e => e.low) ++ whenPresent 2 (x.map fun e => e.high) := by
  cases x <;> rfl

/-- A directive that reads answers its bytes alone (R146, R172). -/
theorem exec_of_bytes {r : Requester} {e : Nat} {s : State} {c : Instr} {d : Directive} {a : Answer} {bytes : List Byte}
    (h : Accepts r e s) (hc : exec c s = .next (settle (receiveDirective r d s))) (hd : largestResult d ≤ 59)
    (ha : directive e r.src.toNat true d (taken s) = a) (hstate : a.state = taken s) (hbytes : a.bytes = bytes) :
    exec c s = .next (settle (answered r bytes (taken s))) := by
  rw [exec_of_read h hc hd ha hstate, hbytes]

/-- READ TRACK's result and data (R24). -/
theorem bytes_readTrack (index : Nat) (s : State) : (readTrack index s).bytes =
    if 15 < index then [11]
    else match s.trk.track[index]? with
      | none => 2 :: be 1 s.trk.track.length
      | some b => 0 :: be 1 s.trk.track.length ++ boardImage b := by
  unfold readTrack
  split
  · rfl
  · cases s.trk.track[index]? <;> rfl

/-- Settles O32, by the checks of each directive and the fields of each image. -/
theorem Settled.readsAnswer : Obligations.ReadsAnswer := by
  intro r e s h
  refine ⟨?_, fun index => ?_, fun en kind source sev st skip => ?_, fun b => ?_, fun a hvalue => ?_⟩
  · exact exec_of_bytes (d := .identify) (a := ⟨.done, identifyData, taken s⟩) h rfl
      (by simp [largestResult]) rfl rfl rfl
  · exact exec_of_bytes (d := .readTrack index) h rfl (by simp [largestResult]) rfl (state_readTrack _ _)
      (bytes_readTrack index.toNat (taken s))
  · refine exec_of_bytes (d := .readAlarms en kind source sev st skip)
      (a := readAlarms ⟨en, kind.toNat, source.toNat, sev.toNat, st.toNat, skip.toNat⟩ (taken s)) h rfl
      (by simp [largestResult]) rfl (state_readAlarms _ _) ?_
    unfold readAlarms AlarmFilter.valid
    simp only [Bool.and_eq_true, decide_eq_true_eq, and_assoc]
    split <;> rfl
  · simp only [boardImage, be_one, ofNat_boardByteRecipe, ofNat_boardByteFlags, ofNat_boardByteFlux, clockBytes_eq,
      optBytes_exposure, optBytes_eq_whenPresent, optBytes_natCast, List.append_assoc, List.cons_append, List.nil_append,
      List.flatten_eq_flatMap, List.flatMap_map]
    rfl
  · simp only [alarmImage, alarmShortImage, alarmFlagByte_eq, be_one, raiseValueBytes_eq hvalue, clockBytes_eq,
      lineStateNum_eq_idxOf, List.append_assoc, List.cons_append, List.nil_append, and_true]

end Sys2Proof.Proofs
end

section
/-! SUPPORT. READ STATUS (R175, R176): the eight images field by field, and the snapshot. -/
namespace Sys2Proof.Proofs
open Sys2Proof Sys2Proof.Machine Sys2Proof.Safety

/-! Fields of a status block. -/

theorem firstOf_eq_placed (b : Bool) : firstOf b = placed [true, false] b := by
  cases b <;> rfl

theorem optNum_eq_presentOr (n : Nat) (v : Option Int) : optNum n v = presentOr n v := by
  cases v <;> rfl

theorem optNat_eq_natOr (n : Nat) (v : Option Nat) : optNat n v = natOr n v := optNum_eq_presentOr _ _

theorem placed_severity (h : Option Severity) :
    placed [none, some Severity.note, some .warn, some .drain, some .stop] h = be 1 (holdingNum h) := by
  rcases h with _ | sv
  · rfl
  · cases sv <;> rfl

theorem placed_lineState (st : LineState) :
    placed [LineState.idle, .warmup, .ready, .drain, .stopped, .service] st = be 1 (lineStateNum st) := by
  cases st <;> rfl

theorem placed_lamp (l : Lamp) : placed [Lamp.off, .steady, .blinking] l = be 1 (lampNum l) := by
  cases l <;> rfl

theorem placed_pressure (p : PressureStatus) : placed [PressureStatus.none, .normal, .low] p = be 1 (pressureNum p) := by
  cases p <;> rfl

theorem placed_loopState (l : LoopState) : placed [LoopState.off, .active, .fault, .manual] l = be 1 (loopStateNum l) := by
  cases l <;> rfl

theorem placed_potSensor (p : SensorStatus) :
    placed [SensorStatus.good, .fault, .silent] (if p = .none then .good else p) = be 1 (potSensorNum p) := by
  cases p <;> rfl

theorem placed_feeder (f : FeederState) :
    placed [FeederState.off, .idle, .feeding, .paused, .jammed] f = be 1 (feederNum f) := by
  cases f <;> rfl

theorem placed_exhaustSensor (p : SensorStatus) :
    placed [SensorStatus.none, .good, .fault, .silent] p = be 1 (exhaustSensorNum p) := by
  cases p <;> rfl

theorem placed_class (c : StationClass) : placed [StationClass.operate, .service] c = be 1 (classNum c) := by
  cases c <;> rfl

/-! Blocks. -/

theorem lineImage_eq (s : State) : lineImage s = lineBlock s := by
  simp only [lineBlock, lineImage, placed_lineState, placed_severity, placed_lamp, placedFlags, ← firstOf_eq_placed,
    ← optNat_eq_natOr, satNum, optRow, clockBytes, List.flatMap_cons, List.flatMap_nil, List.append_nil, List.append_assoc]
  rfl

theorem trackerImage_eq (s : State) : trackerImage s = trackerBlock s := by
  simp only [trackerBlock, trackerImage, placedFlags, ← firstOf_eq_placed, ← optNat_eq_natOr, satNum, optRow, interval,
    List.flatMap_cons, List.flatMap_nil, List.append_nil, List.append_assoc, Option.map_map, Nat.min_comm 65535]
  rfl

theorem fluxImage_eq (s : State) : fluxImage s = fluxBlock s := by
  simp only [fluxBlock, fluxImage, placedFlags, placed_pressure, ← firstOf_eq_placed, ← optNat_eq_natOr, satNum,
    State.phaseCount, List.countP_eq_length_filter, List.flatMap_cons, List.flatMap_nil, List.append_nil, List.append_assoc]
  rfl

theorem loopImage_eq (s : State) (i : Nat) : loopImage s i = loopBlock s i := by
  simp only [loopBlock, loopImage, placedFlags, placed_loopState, ← firstOf_eq_placed, ← optNat_eq_natOr,
    ← optNum_eq_presentOr, satNum, List.flatMap_cons, List.flatMap_nil, List.append_nil, List.append_assoc]
  split <;> rfl

theorem potImage_eq (s : State) : potImage s = potBlock s := by
  simp only [potBlock, potImage, placedFlags, placed_potSensor, placed_feeder, ← firstOf_eq_placed, ← optNat_eq_natOr,
    ← optNum_eq_presentOr, State.gateOpen, Option.not_isSome, List.flatMap_cons, List.flatMap_nil, List.append_nil,
    List.append_assoc]

/-- The flow band of the exhaust block (R101, R104). -/
theorem bandNum_flowBand (s : State) : bandNum s.flowBand =
    match (if s.exh.flowSensor = .good then s.exh.flow else none) with
    | none => 0
    | some v => if v < s.L 36 then 0 else if v < s.L 36 + s.L 36 / 20 then 1 else 2 := by
  unfold State.flowBand
  split
  case h_1 v hsensor hflow =>
    rw [hsensor, hflow, if_pos rfl]
    unfold State.recoveryLevel State.flowMin
    dsimp only
    split
    · rfl
    · split <;> rfl
  case h_2 hnot =>
    by_cases hsensor : s.exh.flowSensor = .good
    · rw [if_pos hsensor]
      cases hflow : s.exh.flow with
      | none => rfl
      | some v => exact absurd hflow (hnot v hsensor)
    · rw [if_neg hsensor]
      rfl

theorem lineDemandsFan_eq (st : LineState) : lineDemandsFan st = (st != .idle && st != .service) := by
  cases st <;> rfl

theorem stageNum_eq (st : FlowStage) : stageNum st = if st = .one then 1 else 2 := by
  cases st <;> rfl

theorem exhaustImage_eq (s : State) : exhaustImage s = exhaustBlock s := by
  unfold exhaustImage exhaustBlock
  extract_lets manual band
  have hband : band = bandNum s.flowBand := (bandNum_flowBand s).symm
  have hmanual : manual = (s.exh.manualFan.isSome || s.exh.srcHeater || s.exh.srcPump || s.exh.srcFeeder) := rfl
  rw [hband, hmanual]
  simp only [placedFlags, placed_exhaustSensor, ← firstOf_eq_placed, ← optNat_eq_natOr, lineDemandsFan_eq, stageNum_eq,
    State.manualDemandsFan, List.flatMap_cons, List.flatMap_nil, List.append_nil, List.append_assoc]

theorem linksImage_eq (s : State) : linksImage s = linksBlock s := by
  simp only [linksBlock, linksImage, placedFlags, ← firstOf_eq_placed, State.upNormalOccupancy, List.flatMap_cons,
    List.flatMap_nil, List.append_nil, List.append_assoc]

/-- The set of the DEFINED rows as a sum over the rows (R176). -/
theorem definedSet_eq (s : State) : s.definedSet =
    (List.finRange 32).foldl (fun n row => n + if s.rowDefined row = true then 2 ^ row.val else 0) 0 := by
  have hrows : (List.range 32) = (List.finRange 32).map Fin.val := by decide
  have hrow (row : Fin 32) : Fin.ofNat 32 row.val = row := Fin.ofNat_val_eq_self row
  rw [State.definedSet, hrows, List.map_map, List.sum_eq_foldl, List.foldl_map]
  simp only [Function.comp_apply, hrow]

theorem cursorImage_eq (c : Option Cursor) : cursorImage c = match c with
    | none => 1 :: List.replicate 8 0
    | some c => 0 :: [c.table, c.firstRow, c.lastRow, c.firstCol, c.lastCol].flatMap (be 1) ++ placedFlags [!c.columnMode] ++
        [c.row, c.col].flatMap (be 1) := by
  cases c with
  | none => rfl
  | some c =>
    simp only [cursorImage, placedFlags, ← firstOf_eq_placed, List.flatMap_cons, List.flatMap_nil, List.append_nil,
      List.append_assoc]
    rfl

theorem loaderImage_eq (e : Nat) (s : State) : loaderImage e s = loaderBlock e s := by
  have hwritten (row : List Bool) : writtenCells row = row.countP id := List.countP_eq_length_filter.symm
  rw [loaderImage, loaderBlock, placed_class, ← definedSet_eq, ← funext hwritten, cursorImage_eq]
  rfl

/-! The images' sizes. -/

@[simp] theorem length_firstOf (b : Bool) : (firstOf b).length = 1 := length_be _ _

@[simp] theorem length_optNum (n : Nat) (v : Option Int) : (optNum n v).length = n + 1 := by
  cases v <;> simp [optNum, Nat.add_comm]

@[simp] theorem length_optNat (n : Nat) (v : Option Nat) : (optNat n v).length = n + 1 := length_optNum _ _

/-- A loop's part of the image is 36 bytes (R60). -/
theorem length_loopImage (s : State) (i : Nat) : (loopImage s i).length = 36 := by
  simp [loopImage, satNum]

theorem length_loopsImage (s : State) : (loopsImage s).length = 181 := by
  have five : List.range 5 = [0, 1, 2, 3, 4] := rfl
  simp [loopsImage, five, length_loopImage]

theorem length_exhaustImage_pos (s : State) : 0 < (exhaustImage s).length := by
  unfold exhaustImage
  simp only [List.length_append, length_firstOf]
  omega

/-- Every image has a first part (R175). -/
theorem partCount_pos {e sel : Nat} {s : State} {image : List Byte} (h : statusImage e sel s = some image) :
    0 < partCount image := by
  have hpos : 0 < image.length := by
    unfold statusImage at h
    split at h <;> simp only [Option.some.injEq, reduceCtorEq] at h <;> subst h
    · simp [lineImage]
    · simp [trackerImage]
    · simp [fluxImage]
    · simp [length_loopsImage]
    · simp [potImage]
    · exact length_exhaustImage_pos s
    · simp [linksImage]
    · simp [loaderImage]
  unfold partCount
  omega

theorem statusImage_isSome {e sel : Nat} (s : State) (h : sel ≤ 7) : ∃ image, statusImage e sel s = some image := by
  interval_cases sel <;> exact ⟨_, rfl⟩

theorem statusImage_none {e sel : Nat} (s : State) (h : 7 < sel) : statusImage e sel s = none := by
  obtain ⟨n, rfl⟩ : ∃ n, sel = n + 8 := ⟨sel - 8, by omega⟩
  rfl

theorem readStatus_refused {e sel part : Nat} {s : State} (h : 7 < sel) :
    readStatus e sel part s = (.refused .range, [], s) := by
  rw [readStatus, statusImage_none s h]

/-- Part 0 takes the image as the snapshot and answers its first bytes (R175). -/
theorem readStatus_first {e sel : Nat} {s : State} {image : List Byte} (h : statusImage e sel s = some image) :
    readStatus e sel 0 s = (.done, partData 0 image, s.setSnapshotOf e { selector := sel, image }) := by
  rw [readStatus, h]
  dsimp only
  rw [if_pos rfl, readPart, if_neg (Nat.not_le.mpr (partCount_pos h))]

/-- A later part reads the snapshot and leaves the state (R175). -/
theorem readStatus_later {e sel : Nat} {part : Byte} {s : State} (hsel : sel ≤ 7) (hpart : part.toNat ≠ 0) :
    (readStatus e sel part.toNat s).2.2 = s ∧
    resultByte (readStatus e sel part.toNat s).1 :: (readStatus e sel part.toNat s).2.1 =
      match s.ldr.snapshots.getD e none with
      | none => [2]
      | some snap =>
        if snap.selector ≠ sel then [2]
        else if partCount snap.image ≤ part.toNat then [11]
        else 0 :: part :: be 1 (partCount snap.image) ++ (snap.image.drop (48 * part.toNat)).take 48 := by
  obtain ⟨image, himage⟩ := statusImage_isSome (e := e) s hsel
  rw [readStatus, himage]
  dsimp only
  rw [if_neg hpart]
  cases s.ldr.snapshots.getD e none with
  | none => exact ⟨rfl, rfl⟩
  | some snap =>
    dsimp only
    by_cases hother : snap.selector ≠ sel
    · rw [if_pos hother, if_pos hother]
      exact ⟨rfl, rfl⟩
    · rw [if_neg hother, if_neg hother, readPart]
      split
      · exact ⟨rfl, rfl⟩
      · refine ⟨rfl, ?_⟩
        rw [partData, be_one part.toNat, BitVec.ofNat_toNat, BitVec.setWidth_eq]
        rfl

/-- Settles O33, by the selector, the part and the images. -/
theorem Settled.readStatus : Obligations.ReadStatus := by
  intro r e s sel part h
  refine ⟨fun hsel => ?_, fun image himage hpart => ?_, fun hsel hpart => ?_, fun u => ?_, fun u => ?_⟩
  · have hread := readStatus_refused (e := e) (part := part.toNat) (s := taken s) hsel
    refine exec_of_bytes (d := .readStatus sel part) (a := ⟨.refused .range, [], taken s⟩) h rfl
      (by simp [largestResult]) ?_ rfl rfl
    rw [directive, hread]
  · subst hpart
    have hread := readStatus_first himage
    refine (exec_of_directive (d := .readStatus sel 0)
      (a := ⟨.done, partData 0 image, (taken s).setSnapshotOf e { selector := sel.toNat, image }⟩) h rfl
      (by simp [largestResult]) ?_).trans ?_
    · have hanswer : directive e r.src.toNat true (.readStatus sel 0) (taken s) =
          ⟨(Machine.readStatus e sel.toNat 0 (taken s)).1, (Machine.readStatus e sel.toNat 0 (taken s)).2.1,
            (Machine.readStatus e sel.toNat 0 (taken s)).2.2⟩ := rfl
      rw [hanswer, hread]
    · have hquiet : (taken s).events = [] := taken_events h
      refine congrArg (fun x => Host.Outcome.next (settle x)) ?_
      rw [settle_quiet (s := (taken s).setSnapshotOf e { selector := sel.toNat, image }) hquiet]
      refine congrArg (fun bytes => answered r bytes _) ?_
      rw [Answer.bytes, partData, be_one, Nat.mul_zero, List.drop_zero]
      rfl
  · have hpart' : part.toNat ≠ 0 := fun h0 => hpart (BitVec.eq_of_toNat_eq h0)
    obtain ⟨hstate, hbytes⟩ := readStatus_later (e := e) (s := taken s) hsel hpart'
    exact exec_of_bytes (d := .readStatus sel part) h rfl (by simp [largestResult]) rfl hstate hbytes
  · have eight : List.range 8 = [0, 1, 2, 3, 4, 5, 6, 7] := rfl
    have hmolten : placedFlags [u.heat.potMolten] = firstOf u.heat.potMolten := by
      rw [placedFlags, ← funext firstOf_eq_placed, List.flatMap_singleton]
    rw [eight, ← lineImage_eq, ← trackerImage_eq, ← fluxImage_eq, ← potImage_eq, ← exhaustImage_eq,
      ← linksImage_eq, ← loaderImage_eq, ← funext (loopImage_eq u), hmolten]
    rfl
  · exact congrArg some (length_loopsImage u)

end Sys2Proof.Proofs
end

section
/-! SUPPORT. A temperature arrival (R50): the tests as one update of the loop's context, the exposure, the overtemperature comparison
and the command it offers. -/
namespace Sys2Proof.Proofs
open Sys2Proof Sys2Proof.Machine Sys2Proof.Safety

/-! The tests (R55 to R57). -/

theorem setLoop_loopCtx {s : State} {i : Nat} (h : i < s.heat.loops.length) : s.setLoop i (s.loopCtx i) = s := by
  rw [loopCtx_eq_getElem s h, State.setLoop, List.set_getElem_self]

theorem withinBand_eq (c : LoopCtx) (band : Nat) : withinBand c band = match c.lastTemp with
    | none => false
    | some T => decide ((T - c.target).natAbs ≤ band) := by
  unfold withinBand
  cases c.lastTemp with
  | none => rfl
  | some T => exact decide_eq_decide.mpr (by omega)

/-- Loop 5 in band sets the pot-molten flag (R56). -/
theorem meltTest_eq (s : State) (i : Nat) (b : Bool) : (if i = 4 ∧ b = true then setMolten true s else s) =
    { s with
      heat.potMolten := s.heat.potMolten || (b && i == 4)
      events := s.events ++ if i = 4 ∧ b = true ∧ s.heat.potMolten = false then [.potMoltenChanged] else [] } := by
  by_cases hmelts : i = 4 ∧ b = true
  · obtain ⟨rfl, rfl⟩ := hmelts
    cases hmolten : s.heat.potMolten with
    | true =>
      have hstands : ({ s with heat.potMolten := true } : State) = s := by rw [← hmolten]
      simp [setMolten, hmolten, hstands]
    | false => simp [setMolten, hmolten, State.post]
  · have hno : ¬(i = 4 ∧ b = true ∧ s.heat.potMolten = false) := fun ⟨hi, hb, _⟩ => hmelts ⟨hi, hb⟩
    have hflag : (b && i == 4) = false := by
      rw [Bool.and_comm]
      simpa using hmelts
    rw [if_neg hmelts, if_neg hno, hflag, Bool.or_false, List.append_nil]

/-- The in-band evaluation as one update (R55, R56). -/
theorem evalInBand_eq {s : State} {i : Nat} (h : i < s.heat.loops.length) : evalInBand i s =
    { s.setLoop i { s.loopCtx i with inBand := s.inBandNow i } with
      heat.potMolten := s.heat.potMolten || (s.inBandNow i && i == 4)
      events := s.events ++ (if s.inBandNow i = (s.loopCtx i).inBand then [] else [.inBandChanged i]) ++
        (if i = 4 ∧ s.inBandNow i = true ∧ s.heat.potMolten = false then [.potMoltenChanged] else []) } := by
  have hflag : (if s.inBandNow i = (s.loopCtx i).inBand then s
      else State.post (s.setLoop i { s.loopCtx i with inBand := s.inBandNow i }) (.inBandChanged i)) =
      { s.setLoop i { s.loopCtx i with inBand := s.inBandNow i } with
        events := s.events ++ if s.inBandNow i = (s.loopCtx i).inBand then [] else [.inBandChanged i] } := by
    split
    · next hsame =>
      rw [hsame, List.append_nil]
      exact (setLoop_loopCtx h).symm
    · rfl
  unfold evalInBand
  dsimp only
  rw [hflag, meltTest_eq]
  rfl

theorem inBandNow_eq (s : State) (i : Nat) : s.inBandNow i = ((s.loopCtx i).state == .active &&
    (s.loopCtx i).setpoint == (s.loopCtx i).target &&
    (match (s.loopCtx i).lastTemp with
    | none => false
    | some T => decide ((T - (s.loopCtx i).target).natAbs ≤ s.K i 4))) := by
  rw [State.inBandNow, withinBand_eq]
  simp [Bool.beq_eq_decide_eq]

/-- The tests' update with the in-band flag and the heat-fail condition given (R55 to R57). -/
def testsTaken (i : Nat) (band short : Bool) (s : State) : State :=
  { s.setLoop i { s.loopCtx i with
      inBand := band, heatFailTimer := if short = true then (s.loopCtx i).heatFailTimer else 0
      heatFail := (s.loopCtx i).heatFail && short } with
    heat.potMolten := s.heat.potMolten || (band && i == 4)
    events := s.events ++ (if band = (s.loopCtx i).inBand then [] else [.inBandChanged i]) ++
      (if i = 4 ∧ band = true ∧ s.heat.potMolten = false then [.potMoltenChanged] else []) ++
      (if (s.loopCtx i).heatFail = true ∧ short = false then [.clear .heatFail (i + 1)] else []) }

theorem loopTested_eq (i : Nat) (s : State) : loopTested i s = testsTaken i (s.inBandNow i) (fallsShort s i) s := by
  rw [inBandNow_eq]
  rfl

/-- The two tests of a loop as one update (R50 step 6). -/
theorem testLoop_eq_loopTested {s : State} {i : Nat} (h : i < s.heat.loops.length) : testLoop i s = loopTested i s := by
  rw [loopTested_eq]
  unfold testLoop heatFailTest
  have hctx : (evalInBand i s).loopCtx i = { s.loopCtx i with inBand := s.inBandNow i } := by
    rw [evalInBand_eq h]
    exact State.loopCtx_setLoop_self s i _ h
  have hshort : fallsShort (evalInBand i s) i = fallsShort s i := by
    unfold fallsShort
    rw [hctx, evalInBand_eq h]
    rfl
  rw [heatFailCounts_eq_fallsShort, hshort]
  cases hs : fallsShort s i with
  | true =>
    rw [if_pos rfl, evalInBand_eq h, testsTaken]
    simp
  | false =>
    rw [if_neg Bool.false_ne_true, endHeatFail, hctx, evalInBand_eq h, testsTaken]
    cases hfail : (s.loopCtx i).heatFail <;> simp [State.clearIf, State.clear, State.post, State.setLoop]

/-! Steps 1 to 3 of an arrival (R17, R18, R48 to R50). -/

/-- Step 1: the last temperature and the causes the report names (R48). -/
theorem applyReport_eq {s : State} {i : Nat} (h : i < s.heat.loops.length) (report : Option Report) (c : LoopCtx) :
    applyReport i report (s.setLoop i c) = s.setLoop i { c with causes := causesReported report c.causes } := by
  cases report with
  | none => rfl
  | some rep =>
    rw [applyReport, sensorCauses, State.loopCtx_setLoop_self s i c h]
    exact setLoop_setLoop s i c _

theorem exposeList_eq_exposed (zone : Nat) (v : Int) (l : List Exposure) : exposeList zone v l = exposed zone v l := by
  induction l with
  | nil => rfl
  | cons e rest ih =>
    let before : Exposure → Bool := fun e => decide (e.zone < zone)
    by_cases hbefore : e.zone < zone
    · have hne : e.zone ≠ zone := Nat.ne_of_lt hbefore
      have hskip : before e = true := decide_eq_true hbefore
      have hstep : exposed zone v (e :: rest) = e :: exposed zone v rest := by
        unfold exposed
        rw [List.takeWhile_cons_of_pos (p := before) hskip, List.dropWhile_cons_of_pos (p := before) hskip]
        cases hd : List.dropWhile before rest with
        | nil => rfl
        | cons e' rest' => exact (apply_ite (List.cons e) _ _ _).symm
      rw [exposeList, if_neg hne, if_neg (Nat.lt_asymm hbefore), ih, hstep]
    · have hstop : ¬before e = true := fun hd => hbefore (of_decide_eq_true hd)
      unfold exposed
      rw [exposeList, List.takeWhile_cons_of_neg (p := before) hstop, List.dropWhile_cons_of_neg (p := before) hstop]
      by_cases hsame : e.zone = zone
      · rw [if_pos hsame]
        exact (if_pos hsame).symm
      · rw [if_neg hsame, if_pos (by omega)]
        exact (if_neg hsame).symm

theorem presentInZone_iff (s : State) (i : Nat) (r : BoardRecord) : s.presentInZone i r = true ↔
    s.L (4 + i) ≤ (s.trk.position - r.lead).toNat ∧ beyond s.trk.position r (s.L (8 + i)) = false := by
  rw [State.presentInZone, trailAtLeast_eq_beyond, Bool.and_eq_true, decide_eq_true_eq, Bool.not_eq_true']
  rfl

/-- Step 2: the value to the records present in the zone, or to the pot controller (R17, R18). -/
theorem passTemp_eq (i : Nat) (v : Int) (s : State) : passTemp i v s = { s with
    trk.track := if i = 4 then s.trk.track else s.trk.track.map fun r =>
      if s.L (4 + i) ≤ (s.trk.position - r.lead).toNat ∧ beyond s.trk.position r (s.L (8 + i)) = false then
        { r with exposure := exposed (i + 1) v r.exposure }
      else r
    pot.potTemp := if i = 4 then some v else s.pot.potTemp } := by
  unfold passTemp
  by_cases hi : i = 4
  · rw [if_pos hi, if_pos hi, if_pos hi]
  · rw [if_neg hi, if_neg hi, if_neg hi]
    simp only [exposeZone, State.mapTrack, presentInZone_iff, exposeList_eq_exposed]

/-- Step 3: the overtemperature comparison as one update (R49). -/
theorem overtempTest_eq {s : State} {i : Nat} (h : i < s.heat.loops.length) (v : Int) {hot cooled : Bool}
    (hhot : hot = decide ((s.K i 6 : Int) < v ∧ s.K i 6 ≠ 0 ∧ (s.loopCtx i).causes.overtemp = false))
    (hcooled : cooled = decide (v ≤ (s.K i 6 : Int) - 50 ∧ (s.loopCtx i).causes.overtemp = true)) :
    overtempTest i v s = { s.setLoop i { s.loopCtx i with causes := { (s.loopCtx i).causes with
        overtemp := ((s.loopCtx i).causes.overtemp || hot) && !cooled, latch := (s.loopCtx i).causes.latch || hot } } with
      events := s.events ++ (if hot then [.raise .overtemp (i + 1) (some v)] else []) ++
        if cooled then [.clear .overtemp (i + 1)] else [] } := by
  subst hhot hcooled
  have hkept : ({ s.setLoop i { s.loopCtx i with causes := { (s.loopCtx i).causes with
        overtemp := ((s.loopCtx i).causes.overtemp || false) && !false, latch := (s.loopCtx i).causes.latch || false } } with
      events := s.events ++ (if false = true then [.raise .overtemp (i + 1) (some v)] else []) ++
        if false = true then [.clear .overtemp (i + 1)] else [] } : State) = s := by
    simp only [Bool.or_false, Bool.not_false, Bool.and_true, Bool.false_eq_true, if_false, List.append_nil]
    exact setLoop_loopCtx h
  unfold overtempTest
  dsimp only
  by_cases hover : (s.K i 6 : Int) < v
  · have hwarm : ¬(v ≤ (s.K i 6 : Int) - 50) := by omega
    by_cases hstands : s.K i 6 = 0 ∨ (s.loopCtx i).causes.overtemp = true
    · have hhot : ¬((s.K i 6 : Int) < v ∧ s.K i 6 ≠ 0 ∧ (s.loopCtx i).causes.overtemp = false) :=
        fun ⟨_, hlimit, hclear⟩ => hstands.elim hlimit fun hset => Bool.false_ne_true (hclear.symm.trans hset)
      rw [if_pos hover, if_pos hstands, decide_eq_false hhot, decide_eq_false fun hcool => hwarm hcool.1]
      exact hkept.symm
    · obtain ⟨hlimit, hclear⟩ := not_or.mp hstands
      rw [if_pos hover, if_neg hstands]
      simp [hover, hwarm, hlimit, hclear, State.raise, State.post]
  · by_cases hcool : v ≤ (s.K i 6 : Int) - 50 ∧ (s.loopCtx i).causes.overtemp = true
    · rw [if_neg hover, if_pos hcool]
      simp [hover, hcool, State.clear, State.post]
    · rw [if_neg hover, if_neg hcool, decide_eq_false fun hhot => hover hhot.1, decide_eq_false hcool]
      exact hkept.symm

/-- Steps 1 to 3 of an arrival as one update (R50). -/
theorem begun_eq_arrivalBegun {s : State} {i : Nat} (h : i < s.heat.loops.length) (report : Option Report) (v : Int) :
    overtempTest i v (passTemp i v (applyReport i report (s.setLoop i { s.loopCtx i with lastTemp := some v }))) =
      arrivalBegun i report v s := by
  rw [applyReport_eq h, passTemp_eq]
  let c := s.loopCtx i
  let x := causesReported report c.causes
  let taken : State := { s.setLoop i { c with lastTemp := some v, causes := x } with
    trk.track := if i = 4 then s.trk.track else s.trk.track.map fun r =>
      if s.L (4 + i) ≤ (s.trk.position - r.lead).toNat ∧ beyond s.trk.position r (s.L (8 + i)) = false then
        { r with exposure := exposed (i + 1) v r.exposure }
      else r
    pot.potTemp := if i = 4 then some v else s.pot.potTemp }
  have hctx : taken.loopCtx i = { c with lastTemp := some v, causes := x } := State.loopCtx_setLoop_self s i _ h
  have htaken : i < taken.heat.loops.length :=
    (State.setLoop_length s i _).symm ▸ h
  have htest := overtempTest_eq htaken v rfl rfl
  rw [hctx] at htest
  refine htest.trans ?_
  simp only [arrivalBegun, taken, State.setLoop, List.set_set]
  rfl

/-! Step 5: the command of an arrival (R58, R62). -/

theorem driveLoop_eq_arrivalDriven {s : State} {i : Nat} (h : i < s.heat.loops.length) (v : Int) :
    driveLoop i v s = arrivalDriven i v s := by
  unfold driveLoop arrivalDriven
  dsimp only
  cases hst : (s.loopCtx i).state with
  | active =>
    dsimp only
    rw [compute, sendDuty, State.loopCtx_setLoop_self s i _ h, setLoop_setLoop]
  | manual =>
    dsimp only
    rw [← hst]
    rfl
  | off => rfl
  | fault => rfl

/-! What the loop's context is after each part. -/

theorem heat_of_commandValue (s : State) (f : OutFn) (v : Nat) : (s.commandValue f v).heat = s.heat := by
  rw [State.commandValue_frame]

theorem loopCtx_testsTaken {s : State} {i : Nat} (h : i < s.heat.loops.length) (band short : Bool) :
    (testsTaken i band short s).loopCtx i = { s.loopCtx i with
      inBand := band, heatFailTimer := if short = true then (s.loopCtx i).heatFailTimer else 0
      heatFail := (s.loopCtx i).heatFail && short } :=
  State.loopCtx_setLoop_self s i _ h

theorem loopCtx_commandValue (s : State) (f : OutFn) (v i : Nat) : (s.commandValue f v).loopCtx i = s.loopCtx i := by
  unfold State.loopCtx
  rw [heat_of_commandValue]

section Driven
variable {s : State} {i : Nat} (v : Int)

theorem arrivalDriven_active (h : (s.loopCtx i).state = .active) : arrivalDriven i v s =
    State.commandValue (s.setLoop i (computed (s.K i 0) (s.K i 1) (s.K i 2) (s.K i 3) s.time v (s.loopCtx i))) (loopFn i)
      (computed (s.K i 0) (s.K i 1) (s.K i 2) (s.K i 3) s.time v (s.loopCtx i)).duty := by
  unfold arrivalDriven
  dsimp only
  rw [h]

theorem arrivalDriven_manual (h : (s.loopCtx i).state = .manual) : arrivalDriven i v s =
    State.commandValue (s.setLoop i { s.loopCtx i with duty := (s.loopCtx i).manual.getD 0 }) (loopFn i)
      ((s.loopCtx i).manual.getD 0) := by
  unfold arrivalDriven
  dsimp only
  split
  · next hst => exact absurd (h.symm.trans hst) (by decide)
  · rfl
  · next hst => exact absurd (h.symm.trans hst) (by decide)
  · next hst => exact absurd (h.symm.trans hst) (by decide)

theorem arrivalDriven_rest (h : (s.loopCtx i).state = .off ∨ (s.loopCtx i).state = .fault) : arrivalDriven i v s = s := by
  unfold arrivalDriven
  dsimp only
  split
  · next hst => exact absurd hst (by rcases h with h | h <;> rw [h] <;> decide)
  · next hst => exact absurd hst (by rcases h with h | h <;> rw [h] <;> decide)
  · rfl
  · rfl

end Driven

/-- The last temperatures of the loops: what the derivations, the computation and the tests leave alone. -/
def lastTemps (s : State) : List (Option Int) := s.heat.loops.map fun c => c.lastTemp

theorem lastTemp_of_lastTemps {s t : State} (h : lastTemps t = lastTemps s) (i : Nat) :
    (t.loopCtx i).lastTemp = (s.loopCtx i).lastTemp := by
  have hget (u : State) : (u.loopCtx i).lastTemp = (lastTemps u).getD i none :=
    (List.getD_map u.heat.loops ({} : LoopCtx) fun c => c.lastTemp).symm
  rw [hget, hget, h]

theorem length_of_lastTemps {s t : State} (h : lastTemps t = lastTemps s) : t.heat.loops.length = s.heat.loops.length := by
  have := congrArg List.length h
  rwa [lastTemps, lastTemps, List.length_map, List.length_map] at this

/-- A loop's context with its last temperature kept. -/
theorem lastTemps_setLoop {s : State} {i : Nat} {c : LoopCtx} (h : c.lastTemp = (s.loopCtx i).lastTemp) :
    lastTemps (s.setLoop i c) = lastTemps s := by
  by_cases hi : i < s.heat.loops.length
  · rw [loopCtx_eq_getElem s hi] at h
    rw [lastTemps, State.setLoop, List.map_set, h, ← List.getElem_map (fun c : LoopCtx => c.lastTemp) (h := by simpa using hi)]
    exact List.set_getElem_self _
  · rw [State.setLoop, List.set_eq_of_length_le (Nat.not_lt.mp hi)]

@[simp] theorem lastTemps_post (s : State) (e : Event) : lastTemps (s.post e) = lastTemps s := rfl
@[simp] theorem lastTemps_commandValue (s : State) (f : OutFn) (v : Nat) : lastTemps (s.commandValue f v) = lastTemps s := by
  unfold lastTemps
  rw [heat_of_commandValue]
@[simp] theorem lastTemps_commandZero (s : State) (f : OutFn) : lastTemps (s.commandZero f) = lastTemps s := by
  unfold lastTemps
  rw [State.commandZero_frame]
@[simp] theorem lastTemps_setManual (i : Nat) (m : Option Nat) (s : State) : lastTemps (setManual i m s) = lastTemps s := by
  unfold setManual
  dsimp only
  split
  · exact lastTemps_setLoop rfl
  · exact lastTemps_setLoop rfl
@[simp] theorem lastTemps_sendDuty (i v : Nat) (s : State) : lastTemps (sendDuty i v s) = lastTemps s :=
  (lastTemps_commandValue _ _ _).trans (lastTemps_setLoop rfl)
@[simp] theorem lastTemps_sendZero (i : Nat) (s : State) : lastTemps (sendZero i s) = lastTemps s :=
  (lastTemps_commandZero _ _).trans (lastTemps_setLoop rfl)
@[simp] theorem lastTemps_setMolten (b : Bool) (s : State) : lastTemps (setMolten b s) = lastTemps s := by
  unfold setMolten
  split <;> rfl
@[simp] theorem lastTemps_evalInBand (i : Nat) (s : State) : lastTemps (evalInBand i s) = lastTemps s := by
  unfold evalInBand
  have hband : lastTemps (if s.inBandNow i = (s.loopCtx i).inBand then s
      else State.post (s.setLoop i { s.loopCtx i with inBand := s.inBandNow i }) (.inBandChanged i)) = lastTemps s := by
    split
    · rfl
    · exact lastTemps_setLoop rfl
  dsimp only
  split
  · exact (lastTemps_setMolten _ _).trans hband
  · exact hband
@[simp] theorem lastTemps_endHeatFail (i : Nat) (s : State) : lastTemps (endHeatFail i s) = lastTemps s := by
  unfold endHeatFail State.clearIf
  split <;> exact lastTemps_setLoop rfl
@[simp] theorem lastTemps_testLoop (i : Nat) (s : State) : lastTemps (testLoop i s) = lastTemps s := by
  unfold testLoop heatFailTest
  split <;> simp
@[simp] theorem lastTemps_writeTarget (i v : Nat) (s : State) : lastTemps (writeTarget i v s) = lastTemps s := by
  unfold writeTarget
  split
  · rfl
  · exact lastTemps_setLoop rfl
@[simp] theorem lastTemps_enterRest (i : Nat) (st : LoopState) (s : State) : lastTemps (enterRest i st s) = lastTemps s := by
  unfold enterRest
  dsimp only
  have hentry : lastTemps (s.setLoop i { s.loopCtx i with state := st, lastComp := none, idleTimer := 0 }) = lastTemps s :=
    lastTemps_setLoop rfl
  split
  · split <;> simp [hentry]
  · split <;> simp [hentry]
@[simp] theorem lastTemps_enterActive (i : Nat) (old : LoopState) (s : State) :
    lastTemps (enterActive i old s) = lastTemps s := by
  unfold enterActive
  dsimp only
  have hentry : lastTemps (s.setLoop i { s.loopCtx i with state := .active, heatFailTimer := 0, idleTimer := 0 }) =
    lastTemps s := lastTemps_setLoop rfl
  rw [lastTemps_testLoop]
  split
  · rw [lastTemps_sendZero, lastTemps_setLoop (by rfl), lastTemps_writeTarget, hentry]
  · rw [lastTemps_setLoop (by rfl), lastTemps_writeTarget, hentry]
@[simp] theorem lastTemps_enterManual (i : Nat) (s : State) : lastTemps (enterManual i s) = lastTemps s := by
  unfold enterManual
  dsimp only
  rw [lastTemps_testLoop, lastTemps_sendDuty]
  exact lastTemps_setLoop rfl
@[simp] theorem lastTemps_deriveLoop (i : Nat) (s : State) : lastTemps (deriveLoop i s) = lastTemps s := by
  unfold deriveLoop
  dsimp only
  split
  · rfl
  · split <;> simp
theorem lastTemps_arrivalDriven (i : Nat) (v : Int) (s : State) : lastTemps (arrivalDriven i v s) = lastTemps s := by
  unfold arrivalDriven
  dsimp only
  split
  · exact (lastTemps_commandValue _ _ _).trans (lastTemps_setLoop rfl)
  · exact (lastTemps_commandValue _ _ _).trans (lastTemps_setLoop rfl)
  · rfl
  · rfl

/-! The net of a command. -/

theorem outputRun_congr {s t : State} (hnet : t.net = s.net) (htab : t.tab = s.tab) (f : OutFn) (v : Nat) :
    t.outputRun f v = s.outputRun f v := by
  rw [State.outputRun, State.outputRun, State.outputRow, State.outputRow, hnet, htab]

section Net
variable {s t : State} (hnet : t.net = s.net) (htab : t.tab = s.tab) (hfilt : t.filt = s.filt)
include htab hfilt

theorem sendable_congr (f : OutFn) : t.sendable f = s.sendable f := by
  rw [State.sendable, State.sendable, State.outputRow, State.outputRow, State.marked, State.marked, htab, hfilt]

include hnet

/-- The DOWN arbiter reads and writes the loop interface and reads the tables and the marks, nothing else (R153). -/
theorem net_arbitrateDown (n : Nat) : (arbitrateDown n t).net = (arbitrateDown n s).net := by
  induction n generalizing s t with
  | zero => exact hnet
  | succ n ih =>
    have hsend := sendable_congr htab hfilt
    have hrun := outputRun_congr hnet htab
    have hslot (f : OutFn) (v : Nat) (rest : List (OutFn × Nat)) :
        (match grantSlot t f v rest with
          | (u, true) => u
          | (u, false) => arbitrateDown n u).net =
        (match grantSlot s f v rest with
          | (u, true) => u
          | (u, false) => arbitrateDown n u).net := by
      unfold grantSlot
      dsimp only
      rw [hsend, hrun, hnet]
      cases s.sendable f with
      | true => rfl
      | false => exact ih rfl htab hfilt
    unfold arbitrateDown
    rw [hnet]
    cases s.net.downUrgent with
    | cons f rest =>
      dsimp only
      rw [hsend, hrun]
      cases s.sendable f with
      | true => rfl
      | false => exact ih rfl htab hfilt
    | nil =>
      dsimp only
      cases s.net.downSlots with
      | nil =>
        cases s.net.downFifo with
        | nil => exact hnet
        | cons run fifo => rfl
      | cons p rest =>
        obtain ⟨f, v⟩ := p
        cases decide (Config.fairnessLimit ≤ s.net.downFair) with
        | true => exact hslot f v rest
        | false =>
          cases s.net.downFifo with
          | nil => exact hslot f v rest
          | cons run fifo => rfl

theorem net_commandValue (f : OutFn) (v : Nat) : (t.commandValue f v).net = (s.commandValue f v).net := by
  unfold State.commandValue
  rw [sendable_congr htab hfilt]
  split
  · unfold State.offerSlot State.wakeDown
    dsimp only
    rw [hnet]
    split
    · rfl
    · apply net_arbitrateDown
      · rfl
      · exact htab
      · exact hfilt
  · exact hnet

end Net

/-- A loop that leaves FAULT for ACTIVE starts its computation anew (R47). -/
theorem loopCtx_enterActive {s : State} {i : Nat} (h : i < s.heat.loops.length) :
    ((enterActive i .fault s).loopCtx i).state = .active ∧ ((enterActive i .fault s).loopCtx i).lastComp = none ∧
      ((enterActive i .fault s).loopCtx i).integrator = 0 := by
  unfold enterActive
  dsimp only
  rw [if_neg (by decide)]
  let entered := s.setLoop i { s.loopCtx i with state := .active, heatFailTimer := 0, idleTimer := 0 }
  let target := if i < 4 ∧ entered.zoneFree i = true then entered.entryTarget i else entered.targetFor i
  have hentered : i < entered.heat.loops.length := (State.setLoop_length s i _).symm ▸ h
  have hctx : (entered.loopCtx i).state = .active :=
    congrArg LoopCtx.state (State.loopCtx_setLoop_self s i _ h)
  have hlen : i < (writeTarget i target entered).heat.loops.length :=
    length_of_lastTemps (lastTemps_writeTarget i target entered) ▸ hentered
  have hstate : ((writeTarget i target entered).loopCtx i).state = .active := by
    unfold writeTarget
    split
    · exact hctx
    · exact (congrArg LoopCtx.state (State.loopCtx_setLoop_self entered i _ hentered)).trans hctx
  rw [testLoop_eq_loopTested ((State.setLoop_length _ i _).symm ▸ hlen), loopTested_eq,
    loopCtx_testsTaken ((State.setLoop_length _ i _).symm ▸ hlen), State.loopCtx_setLoop_self _ i _ hlen]
  exact ⟨hstate, rfl, rfl⟩

/-! The arrival whole. -/

section Arrival
variable {s : State} {i : Nat}

theorem deriveLoop_same (h : (s.loopCtx i).state = s.derivedLoopState i) : deriveLoop i s = s := if_pos h.symm

/-- An arrival without an OVERTEMP of its own or before it sets the last temperature and the causes the report names (R48, R49). -/
theorem loopCtx_arrivalBegun (h : i < s.heat.loops.length) {report : Option Report} {T : Int}
    (hcool : s.K i 6 = 0 ∨ T ≤ (s.K i 6 : Int)) (hclear : (causesReported report (s.loopCtx i).causes).overtemp = false) :
    (arrivalBegun i report T s).loopCtx i =
      { s.loopCtx i with lastTemp := some T, causes := causesReported report (s.loopCtx i).causes } := by
  have hhot : ¬((s.K i 6 : Int) < T ∧ s.K i 6 ≠ 0 ∧ (causesReported report (s.loopCtx i).causes).overtemp = false) :=
    fun ⟨hover, hlimit, _⟩ => hcool.elim hlimit fun hle => absurd hover (Int.not_lt.mpr hle)
  have hcooled : ¬(T ≤ (s.K i 6 : Int) - 50 ∧ (causesReported report (s.loopCtx i).causes).overtemp = true) :=
    fun ⟨_, hset⟩ => Bool.false_ne_true (hclear.symm.trans hset)
  refine (State.loopCtx_setLoop_self s i _ h).trans ?_
  rw [decide_eq_false hhot, decide_eq_false hcooled, Bool.or_false, Bool.or_false, Bool.not_false, Bool.and_true]

/-- Such an arrival derives the loop's state from the report alone (R45). -/
theorem derived_arrivalBegun (h : i < s.heat.loops.length) {report : Option Report} {T : Int}
    (hcool : s.K i 6 = 0 ∨ T ≤ (s.K i 6 : Int)) (hclear : (causesReported report (s.loopCtx i).causes).overtemp = false) :
    (arrivalBegun i report T s).derivedLoopState i =
      (s.setLoop i { s.loopCtx i with causes := causesReported report (s.loopCtx i).causes }).derivedLoopState i := by
  unfold State.derivedLoopState
  rw [loopCtx_arrivalBegun h hcool hclear, State.loopCtx_setLoop_self s i _ h]
  rfl

theorem overtemp_causesReported (report : Option Report) (c : Causes) :
    (causesReported report c).overtemp = c.overtemp := by
  cases report <;> rfl

/-- A loop derived ACTIVE has no cause of a fault (R44, R45). -/
theorem overtemp_of_derived_active (h : s.derivedLoopState i = .active) : (s.loopCtx i).causes.overtemp = false := by
  unfold State.derivedLoopState at h
  by_contra hset
  have hany : (s.loopCtx i).causes.any = true := by simp [Causes.any, Bool.eq_true_of_not_eq_false hset]
  rw [if_pos hany] at h
  split at h <;> cases h

theorem length_arrivalBegun (report : Option Report) (T : Int) :
    (arrivalBegun i report T s).heat.loops.length = s.heat.loops.length := State.setLoop_length s i _

theorem length_deriveLoop : (deriveLoop i s).heat.loops.length = s.heat.loops.length :=
  length_of_lastTemps (lastTemps_deriveLoop i s)

theorem length_arrivalDriven (T : Int) : (arrivalDriven i T s).heat.loops.length = s.heat.loops.length :=
  length_of_lastTemps (lastTemps_arrivalDriven i T s)

theorem lastTemp_arrivalBegun (h : i < s.heat.loops.length) (report : Option Report) (T : Int) :
    ((arrivalBegun i report T s).loopCtx i).lastTemp = some T :=
  congrArg LoopCtx.lastTemp (State.loopCtx_setLoop_self s i _ h)

end Arrival

theorem deriveLoop_active {s : State} {i : Nat} (hold : (s.loopCtx i).state = .fault) (hst : s.derivedLoopState i = .active) :
    deriveLoop i s = enterActive i .fault s := by
  unfold deriveLoop
  dsimp only
  rw [hst, hold, if_neg (by decide)]

/-- The first computation integrates nothing (R65, R70). -/
theorem integrator_computed_first {k0 k1 k2 k3 : Nat} {now : Time} {v : Int} {c : LoopCtx} (h : c.lastComp = none) :
    (computed k0 k1 k2 k3 now v c).integrator = c.integrator := by
  unfold computed integralStage integrates
  rw [h]
  simp [elapsed]

theorem inBandNow_iff {s : State} {i : Nat} {T : Int} (htemp : (s.loopCtx i).lastTemp = some T) : s.inBandNow i = true ↔
    (s.loopCtx i).state = .active ∧ (s.loopCtx i).setpoint = (s.loopCtx i).target ∧
      (T - (s.loopCtx i).target).natAbs ≤ s.K i 4 := by
  rw [inBandNow_eq, htemp]
  simp only [Bool.and_eq_true, beq_iff_eq, decide_eq_true_eq, and_assoc]

theorem fallsShort_iff {s : State} {i : Nat} {T : Int} (htemp : (s.loopCtx i).lastTemp = some T) : fallsShort s i = true ↔
    (s.loopCtx i).state = .active ∧ (s.loopCtx i).duty = s.K i 2 ∧ T < ((s.loopCtx i).target : Int) - s.K i 4 ∧ 0 < s.L 26 := by
  unfold fallsShort
  dsimp only
  rw [htemp]
  simp only [Bool.and_eq_true, beq_iff_eq, decide_eq_true_eq, and_assoc]
  exact and_congr_right fun _ => and_congr_right fun _ => and_comm

/-- The command of an arrival leaves the loop's state, target and manual duty (R58, R62). -/
theorem standing_arrivalDriven {s : State} {i : Nat} (h : i < s.heat.loops.length) (T : Int) :
    ((arrivalDriven i T s).loopCtx i).state = (s.loopCtx i).state ∧
      ((arrivalDriven i T s).loopCtx i).target = (s.loopCtx i).target ∧
      ((arrivalDriven i T s).loopCtx i).manual = (s.loopCtx i).manual := by
  cases hst : (s.loopCtx i).state with
  | active =>
    rw [arrivalDriven_active T hst, loopCtx_commandValue, State.loopCtx_setLoop_self s i _ h]
    exact ⟨hst, rfl, rfl⟩
  | manual =>
    rw [arrivalDriven_manual T hst, loopCtx_commandValue, State.loopCtx_setLoop_self s i _ h]
    exact ⟨hst, rfl, rfl⟩
  | off =>
    rw [arrivalDriven_rest T (.inl hst)]
    exact ⟨hst, rfl, rfl⟩
  | fault =>
    rw [arrivalDriven_rest T (.inr hst)]
    exact ⟨hst, rfl, rfl⟩

/-- An arrival up to its tests (R50 steps 1 to 5). -/
def arrivalDone (i : Nat) (report : Option Report) (T : Int) (s : State) : State :=
  arrivalDriven i T (deriveLoop i (arrivalBegun i report T s))

section Done
variable {s : State} {i : Nat} {report : Option Report} {T : Int}

theorem lt_length_derived (h : i < s.heat.loops.length) : i < (deriveLoop i (arrivalBegun i report T s)).heat.loops.length := by
  rw [length_deriveLoop, length_arrivalBegun]
  exact h

theorem lt_length_arrivalDone (h : i < s.heat.loops.length) : i < (arrivalDone i report T s).heat.loops.length := by
  rw [arrivalDone, length_arrivalDriven]
  exact lt_length_derived h

/-- A temperature arrival in the order of R50. -/
theorem tempArrival_eq (h : i < s.heat.loops.length) :
    tempArrival i report T s = loopTested i (arrivalDone i report T s) := by
  rw [← testLoop_eq_loopTested (lt_length_arrivalDone h), arrivalDone, ← driveLoop_eq_arrivalDriven (lt_length_derived h),
    ← begun_eq_arrivalBegun h]
  rfl

theorem lastTemp_arrivalDone (h : i < s.heat.loops.length) : ((arrivalDone i report T s).loopCtx i).lastTemp = some T := by
  rw [arrivalDone, lastTemp_of_lastTemps (lastTemps_arrivalDriven i T _), lastTemp_of_lastTemps (lastTemps_deriveLoop i _)]
  exact lastTemp_arrivalBegun h report T

theorem exceptHeat_arrivalDone (h : i < s.heat.loops.length) :
    exceptHeat (arrivalDone i report T s) = exceptHeat (arrivalBegun i report T s) := by
  rw [arrivalDone, ← driveLoop_eq_arrivalDriven (lt_length_derived h), exceptHeat_driveLoop, exceptHeat_deriveLoop]

theorem tab_arrivalDone (h : i < s.heat.loops.length) : (arrivalDone i report T s).tab = s.tab :=
  (congrArg State.tab (exceptHeat_arrivalDone h) :)

/-- A loop that the report takes from FAULT to ACTIVE is computed with an elapsed time of 0 (R47, R65). -/
theorem arrivalDone_revived (h : i < s.heat.loops.length) (hfault : (s.loopCtx i).state = .fault)
    (hact : (s.setLoop i { s.loopCtx i with causes := causesReported report (s.loopCtx i).causes }).derivedLoopState i = .active)
    (hcool : s.K i 6 = 0 ∨ T ≤ (s.K i 6 : Int)) :
    ((arrivalDone i report T s).loopCtx i).state = .active ∧
      ((arrivalDone i report T s).loopCtx i).lastComp = some s.time ∧ ((arrivalDone i report T s).loopCtx i).integrator = 0 := by
  have hclear : (causesReported report (s.loopCtx i).causes).overtemp = false := by
    have hnone := overtemp_of_derived_active hact
    rwa [State.loopCtx_setLoop_self s i _ h] at hnone
  have hstate : ((arrivalBegun i report T s).loopCtx i).state = .fault := by
    rw [loopCtx_arrivalBegun h hcool hclear]
    exact hfault
  have hentered := deriveLoop_active hstate ((derived_arrivalBegun h hcool hclear).trans hact)
  obtain ⟨hactive, hcomp, hinteg⟩ := loopCtx_enterActive (lt_of_lt_of_eq h (length_arrivalBegun report T).symm)
  rw [← hentered] at hactive hcomp hinteg
  have htime : (deriveLoop i (arrivalBegun i report T s)).time = s.time :=
    (congrArg State.time (exceptHeat_deriveLoop (arrivalBegun i report T s) i) :)
  rw [arrivalDone, arrivalDriven_active T hactive, loopCtx_commandValue,
    State.loopCtx_setLoop_self _ i _ (lt_length_derived h), integrator_computed_first hcomp]
  exact ⟨hactive, congrArg some htime, hinteg⟩

/-- Where the report moves no state the arrival only drives the loop (R45, R50). -/
theorem arrivalDone_standing (h : i < s.heat.loops.length) (hcool : s.K i 6 = 0 ∨ T ≤ (s.K i 6 : Int))
    (hclear : (s.loopCtx i).causes.overtemp = false)
    (hsame : (s.loopCtx i).state =
      (s.setLoop i { s.loopCtx i with causes := causesReported report (s.loopCtx i).causes }).derivedLoopState i) :
    arrivalDone i report T s = arrivalDriven i T (arrivalBegun i report T s) ∧ (arrivalBegun i report T s).loopCtx i =
      { s.loopCtx i with lastTemp := some T, causes := causesReported report (s.loopCtx i).causes } := by
  have hclear' : (causesReported report (s.loopCtx i).causes).overtemp = false :=
    (overtemp_causesReported report _).trans hclear
  have hctx := loopCtx_arrivalBegun h hcool hclear'
  refine ⟨congrArg (arrivalDriven i T) (deriveLoop_same ?_), hctx⟩
  rw [hctx]
  exact hsame.trans (derived_arrivalBegun h hcool hclear').symm

/-- The net after an arrival's command is that of the command alone (R153). -/
theorem net_driven (c : LoopCtx) (f : OutFn) (v : Nat) :
    (State.commandValue ((arrivalBegun i report T s).setLoop i c) f v).net = (s.commandValue f v).net := by
  apply net_commandValue <;> rfl

end Done

theorem handle_loopDelivery {i : Nat} (hi : i < 5) (report : Option Report) (T : Int) (s : State) :
    handle (.delivery (loopQuantity i) report (some T)) s = tempArrival i report T s := by
  match i, hi with
  | 0, _ => rfl
  | 1, _ => rfl
  | 2, _ => rfl
  | 3, _ => rfl
  | 4, _ => rfl

/-- Settles O28, by the steps of R50 one after another. -/
theorem Settled.heatArrival : Obligations.HeatArrival := by
  intro s i report T hi hfive t c d reported out
  have h : i < s.heat.loops.length := hfive.symm ▸ hi
  have harrival : t = loopTested i (arrivalDone i report T s) := (handle_loopDelivery hi report T s).trans (tempArrival_eq h)
  have hother := exceptHeat_arrivalDone (report := report) (T := T) h
  have htemp := lastTemp_arrivalDone (report := report) (T := T) h
  have hK (n : Nat) : (arrivalDone i report T s).K i n = s.K i n := by rw [State.K, State.K, tab_arrivalDone h]
  have hL (n : Nat) : (arrivalDone i report T s).L n = s.L n := by rw [State.L, State.L, tab_arrivalDone h]
  have htrk : t.trk = (arrivalBegun i report T s).trk := by
    rw [harrival]
    exact (congrArg State.trk hother :)
  have hpot : t.pot = (arrivalBegun i report T s).pot := by
    rw [harrival]
    exact (congrArg State.pot hother :)
  have hctx : d = _ := (congrArg (fun u => State.loopCtx u i) (harrival.trans (loopTested_eq i _))).trans
    (loopCtx_testsTaken (lt_length_arrivalDone h) _ _)
  have hnet : t.net = (arrivalDone i report T s).net := (congrArg State.net harrival :)
  have hmolten : t.heat.potMolten = ((arrivalDone i report T s).heat.potMolten ||
      ((arrivalDone i report T s).inBandNow i && i == 4)) := by
    rw [harrival, loopTested_eq]
    rfl
  clear_value d t
  refine ⟨harrival.trans (by rw [arrivalDone]), fun hz => ?_, fun hp => ⟨?_, ?_⟩, fun hfault hact hcool => ?_, fun hsame hcool hclear => ?_, ?_,
    fun hp hband => ?_, fun hno => ?_⟩
  · rw [htrk]
    exact if_neg (Nat.ne_of_lt hz)
  · rw [htrk]
    exact if_pos hp
  · rw [hpot]
    exact if_pos hp
  · rw [hctx]
    dsimp only
    exact arrivalDone_revived h hfault hact hcool
  · obtain ⟨hdone, hbegun⟩ := arrivalDone_standing h hcool hclear hsame
    have hlen := lt_of_lt_of_eq h (length_arrivalBegun (s := s) (i := i) report T).symm
    obtain ⟨hst, htarget, hmanual⟩ := standing_arrivalDriven hlen T
    rw [← hdone, hbegun] at hst htarget hmanual
    have hstate : ((arrivalBegun i report T s).loopCtx i).state = c.state := (congrArg LoopCtx.state hbegun :)
    rw [hctx, hnet]
    dsimp only
    refine ⟨hst, htarget, hmanual, fun ha => ?_, fun hm => ?_, fun hr => ?_⟩
    · rw [hdone, arrivalDriven_active T (hstate.trans ha), loopCtx_commandValue, State.loopCtx_setLoop_self _ i _ hlen,
        net_driven, hbegun]
      exact ⟨rfl, rfl, rfl, rfl, rfl, rfl, rfl, rfl⟩
    · rw [hdone, arrivalDriven_manual T (hstate.trans hm), loopCtx_commandValue, State.loopCtx_setLoop_self _ i _ hlen,
        net_driven, hbegun]
      exact ⟨rfl, rfl, rfl, rfl⟩
    · rw [hdone, arrivalDriven_rest T (hr.imp hstate.trans hstate.trans), hbegun]
      exact ⟨rfl, rfl, rfl, rfl⟩
  · rw [hctx, ← hK]
    dsimp only
    exact inBandNow_iff htemp
  · have hnow : d.inBand = (arrivalDone i report T s).inBandNow i := by rw [hctx]
    rw [hmolten, ← hnow, hband, hp]
    simp
  · have hshort : fallsShort (arrivalDone i report T s) i = false := by
      refine Bool.eq_false_of_not_eq_true fun hshort => hno ?_
      have hfalls := (fallsShort_iff htemp).mp hshort
      rw [hK, hK, hL] at hfalls
      rw [hctx]
      dsimp only
      exact hfalls
    rw [hctx, hshort, Bool.and_false]
    exact ⟨rfl, rfl⟩

end Sys2Proof.Proofs
end

section
/-! SUPPORT. The line state while internal events are taken: no block writes it but the line controller, and no event ends a state
other than IDLE and SERVICE in one of them (R128, R129). -/
namespace Sys2Proof.Proofs
open Sys2Proof Sys2Proof.Machine Sys2Proof.Safety

section Except
variable {s t : State}

theorem line_of_exceptHeat (h : exceptHeat t = exceptHeat s) : t.line = s.line := (congrArg State.line h :)
theorem line_of_exceptPot (h : exceptPot t = exceptPot s) : t.line = s.line := (congrArg State.line h :)
theorem line_of_exceptFlux (h : exceptFlux t = exceptFlux s) : t.line = s.line := (congrArg State.line h :)
theorem line_of_exceptExhaust (h : exceptExhaust t = exceptExhaust s) : t.line = s.line := (congrArg State.line h :)
theorem line_of_exceptAlarm (h : exceptAlarm t = exceptAlarm s) : t.line = s.line := (congrArg State.line h :)

end Except

theorem line_evalTargets (s : State) : (evalTargets s).line = s.line :=
  forLoops_keeps (P := fun t => t.line = s.line)
    (fun i t h => (line_of_exceptHeat (exceptHeat_evalTarget t i)).trans h) s rfl

theorem exceptPot_foldl {α : Type} {f : State → α → State} (h : ∀ s a, exceptPot (f s a) = exceptPot s) (l : List α)
    (s : State) : exceptPot (l.foldl f s) = exceptPot s := by
  induction l generalizing s with
  | nil => rfl
  | cons a l ih => exact (ih _).trans (h s a)

theorem exceptPot_waveCrossings (s : State) : exceptPot (waveCrossings s) = exceptPot s := by
  have hraised (t : State) : exceptPot (t.trk.track.foldl (fun u r => raiseDwellOut r u) t) = exceptPot t :=
    exceptPot_foldl (fun u r => exceptPot_raiseDwellOut u r) _ _
  exact (hraised (s.mapTrack (leadCrossing s)))

theorem exceptPot_potOnTrack (s : State) : exceptPot (potOnTrack s) = exceptPot s :=
  (exceptPot_waveCrossings _).trans (exceptPot_evalGate s)

theorem line_heatOnLine (old : LineState) (s : State) : (heatOnLine old s).line = s.line := by
  have hderive (t : State) : (forLoops deriveLoop t).line = t.line :=
    forLoops_keeps (P := fun u => u.line = t.line)
      (fun i u h => (line_of_exceptHeat (exceptHeat_deriveLoop u i)).trans h) t rfl
  have hmanual : (forLoops (fun i t => setManual i none t) s).line = s.line :=
    forLoops_keeps (P := fun u => u.line = s.line)
      (fun i u h => (line_of_exceptHeat (exceptHeat_setManual u i none)).trans h) s rfl
  unfold heatOnLine
  split
  · exact (hderive _).trans hmanual
  · exact hderive s

theorem line_filterOnLine (old : LineState) (s : State) : (filterOnLine old s).line = s.line := by
  have hfold (l : List OutFn) (t : State) : (l.foldl (fun u f => u.offerUrgentZero f) t).line = t.line := by
    induction l generalizing t with
    | nil => rfl
    | cons f l ih =>
      refine (ih _).trans ?_
      dsimp only
      rw [State.offerUrgentZero_frame]
  unfold filterOnLine
  split
  · exact hfold _ _
  · rfl

theorem line_blocksOnLine (old : LineState) (s : State) : (blocksOnLine old s).line = s.line :=
  (line_filterOnLine old _).trans ((line_of_exceptExhaust (exceptExhaust_exhaustOnLine _ old)).trans
    ((line_of_exceptPot (exceptPot_potOnLine _ old)).trans
      ((line_of_exceptFlux (exceptFlux_recomputeEligible _)).trans (line_heatOnLine old s))))

/-- A change of the line state is to that state (R130). -/
theorem line_changeLine (new : LineState) (cause : LineCause) (s : State) :
    (changeLine new cause s).line = { s.line with state := new, settle := 0 } := by
  unfold changeLine
  dsimp only
  rw [State.offerUpNormal_frame]
  exact line_blocksOnLine _ _

/-- The line is neither in IDLE nor in SERVICE, where the configuration may be written (R184). -/
def Busy (s : State) : Prop := s.line.state ≠ .idle ∧ s.line.state ≠ .service

theorem busy_of_line {s t : State} (h : t.line.state = s.line.state) (hs : Busy s) : Busy t := by
  unfold Busy
  rw [h]
  exact hs

theorem busy_changeLine {new : LineState} (hnew : new ≠ .idle ∧ new ≠ .service) (cause : LineCause) (s : State) :
    Busy (changeLine new cause s) := by
  unfold Busy
  rw [line_changeLine]
  exact hnew

theorem busy_settleTest {s : State} (hs : Busy s) : Busy (settleTest s) := by
  unfold settleTest
  split
  · exact hs
  · split
    · exact busy_changeLine (by decide) _ _
    · exact hs

theorem busy_retestSettle {s : State} (hs : Busy s) : Busy (retestSettle s) := by
  unfold retestSettle
  split
  · exact busy_settleTest hs
  · exact hs

theorem busy_enterLine {new : LineState} (hnew : new ≠ .idle ∧ new ≠ .service) (cause : LineCause) (s : State) :
    Busy (enterLine new cause s) := by
  unfold enterLine
  dsimp only
  split
  · exact busy_settleTest (busy_changeLine hnew _ _)
  · exact busy_changeLine hnew _ _

theorem busy_actOnSeverity (h : Option Severity) {s : State} (hs : Busy s) : Busy (actOnSeverity h s) := by
  unfold actOnSeverity
  split
  · split
    · exact busy_enterLine (by decide) _ _
    · exact hs
  · split
    · exact busy_enterLine (by decide) _ _
    · exact busy_retestSettle hs
  · exact busy_retestSettle hs
  · exact busy_retestSettle hs
  · exact busy_retestSettle hs

theorem line_tempArrival (i : Nat) (report : Option Report) (v : Int) (s : State) :
    (tempArrival i report v s).line = s.line := by
  have hpass (t : State) : (passTemp i v t).line = t.line := by
    rw [passTemp_eq]
  unfold tempArrival
  dsimp only
  rw [line_of_exceptHeat (exceptHeat_testLoop _ _), line_of_exceptHeat (exceptHeat_driveLoop _ _ _),
    line_of_exceptHeat (exceptHeat_deriveLoop _ _), line_of_exceptHeat (exceptHeat_overtempTest _ _ _), hpass,
    line_of_exceptHeat (exceptHeat_applyReport _ _ _)]
  rfl

theorem line_heatDelivery (i : Nat) (report : Option Report) (value : Option Int) (s : State) :
    (heatDelivery i report value s).line = s.line := by
  cases value with
  | none => exact (line_of_exceptHeat (exceptHeat_deriveLoop _ _)).trans (line_of_exceptHeat (exceptHeat_applyReport _ _ _))
  | some v => exact line_tempArrival i report v s

theorem line_takeDelivery (q : Quantity) (report : Option Report) (value : Option Int) (s : State) :
    (takeDelivery q report value s).line = s.line := by
  cases q with
  | none => rfl
  | zoneTemp1 => exact line_heatDelivery 0 report value s
  | zoneTemp2 => exact line_heatDelivery 1 report value s
  | zoneTemp3 => exact line_heatDelivery 2 report value s
  | zoneTemp4 => exact line_heatDelivery 3 report value s
  | potTemp => exact line_heatDelivery 4 report value s
  | potLevel =>
    refine line_of_exceptPot ?_
    cases report <;> cases value <;> simp [takeDelivery, potDelivery]
  | exhaustFlow =>
    refine line_of_exceptExhaust ?_
    cases report <;> cases value <;> simp [takeDelivery, flowDelivery]
  | filterDp =>
    refine line_of_exceptExhaust ?_
    cases report <;> cases value <;> simp [takeDelivery, dpDelivery]
  | fluxPressure =>
    refine line_of_exceptFlux ?_
    cases report <;> cases value <;> simp [takeDelivery, pressureDelivery]

theorem busy_same {s t : State} (h : t.line = s.line) (hs : Busy s) : Busy t := busy_of_line (congrArg Line.state h) hs

theorem busy_changeoverEval {s : State} (hs : Busy s) : Busy (changeoverEval s) := busy_of_line rfl hs

theorem busy_lineOnRecord (appended : Bool) {s : State} (hs : Busy s) : Busy (lineOnRecord appended s) := by
  unfold lineOnRecord
  split
  · exact busy_changeoverEval hs
  · exact busy_changeoverEval hs

/-- No internal event takes the line to IDLE or SERVICE (R126, R128, R129). -/
theorem busy_handle (e : Event) {s : State} (hs : Busy s) : Busy (handle e s) := by
  have hfluxed : (evalTargets (fluxEvaluate s)).line = s.line :=
    (line_evalTargets _).trans (line_of_exceptFlux (exceptFlux_fluxEvaluate s))
  have htracked : (potOnTrack (evalTargets (fluxEvaluate s))).line = s.line :=
    (line_of_exceptPot (exceptPot_potOnTrack _)).trans hfluxed
  cases e with
  | raise k n v => exact busy_same (line_of_exceptAlarm (exceptAlarm_alarmRaise s k n v)) hs
  | clear k n => exact busy_same (line_of_exceptAlarm (exceptAlarm_alarmClear s k n)) hs
  | published h w => exact busy_actOnSeverity h (s := deriveLamps { s with line.holding := h, line.warn := w }) hs
  | overtempRemoved i => exact busy_same (line_of_exceptHeat (exceptHeat_overtempReleased s i)) hs
  | levelCriticalRecord made => exact busy_same (line_of_exceptPot (exceptPot_takeCriticalRecord s made)) hs
  | feedJamRemoved => exact busy_same (line_of_exceptPot (exceptPot_feedJamRelease s)) hs
  | feedJamDropped => exact hs
  | advance => exact busy_changeoverEval (busy_same htracked hs)
  | recordChange appended => exact busy_lineOnRecord appended (busy_same htracked hs)
  | announceChange => exact busy_changeoverEval (busy_same (line_evalTargets s) hs)
  | speedMeasured => exact busy_same (line_of_exceptFlux (exceptFlux_fluxOnSpeed s)) hs
  | inBandChanged i =>
    show Busy (onInBand i s)
    unfold onInBand
    split
    · exact busy_changeoverEval (busy_retestSettle hs)
    · exact busy_retestSettle hs
  | targetChanged i =>
    show Busy (onTarget i s)
    unfold onTarget
    split
    · exact busy_changeoverEval hs
    · exact hs
  | potMoltenChanged => exact busy_retestSettle (busy_same (line_of_exceptPot (exceptPot_derivePump s)) hs)
  | levelStored => exact busy_retestSettle hs
  | valveReport o => exact busy_same (line_of_exceptExhaust (exceptExhaust_takeValveReport s o)) hs
  | heaterReport b => exact busy_same (line_of_exceptExhaust (exceptExhaust_takeHeaterReport s b)) hs
  | pumpReport b => exact busy_same (line_of_exceptExhaust (exceptExhaust_takePumpReport s b)) hs
  | feederReport b => exact busy_same (line_of_exceptExhaust (exceptExhaust_takeFeederReport s b)) hs
  | delivery q r v => exact busy_same (line_takeDelivery q r v s) hs

theorem busy_settle {s : State} (hs : Busy s) : Busy (settle s) :=
  settle_keeps (P := Busy) (fun _ _ h => h) (fun e _ h => busy_handle e h) hs

end Sys2Proof.Proofs
end

section
/-! SUPPORT. What WRITE RUN keeps (R15, R173, R179, R184, R187), value by value. -/
namespace Sys2Proof.Proofs
open Sys2Proof Sys2Proof.Machine Sys2Proof.Safety

/-! What a request with values leaves alone of the time base, the tracker and the address. -/

/-- The time base, the pins, the position and the address: no value of a run and no internal event writes them. -/
def runCore (s : State) : Time × List Nat × Pos × Nat := (s.time, s.trk.pins, s.trk.position, s.net.address)

theorem runCore_of_still {s t : State} (h : still t = still s) : runCore t = runCore s :=
  (congrArg (fun x : State => (x.time, x.trk.pins, x.trk.position, x.net.address)) h :)

theorem runCore_of_stillTimed {s t : State} (h : stillTimed t = stillTimed s) : runCore t = runCore s :=
  runCore_of_still (still_of_stillTimed h)

theorem tab_of_stillTimed {s t : State} (h : stillTimed t = stillTimed s) : t.tab = s.tab := (congrArg State.tab h :)

theorem tab_settle (s : State) : (settle s).tab = s.tab := (congrArg State.tab (still_settle s) :)

/-! A cell's write. -/

theorem restartEntry_frame (i : Nat) (s : State) :
    restartEntry i s = { s with filt := (restartEntry i s).filt, events := (restartEntry i s).events } := by
  have hclear (t : State) (b : Bool) (k : AlarmKind) (n : Nat) : t.clearIf b k n = { t with events := (t.clearIf b k n).events } := by
    cases b <;> rfl
  unfold restartEntry
  dsimp only
  rw [hclear, hclear (s.setEntry i {})]
  split <;> rfl

theorem endNodeFault_frame (f : OutFn) (s : State) :
    endNodeFault f s = { s with filt := (endNodeFault f s).filt, events := (endNodeFault f s).events } := by
  unfold endNodeFault State.clearIf
  split <;> rfl

/-- The tables with one cell written (R180). -/
def cellStored (table row col : Nat) (v : Int) (b : Tables) : Tables :=
  match table with
  | 0 => { b with
      recipe := b.recipe.set row ((b.recipe.getD row []).set col v.toNat)
      written := b.written.set row ((b.written.getD row []).set col true) }
  | 1 => { b with line := b.line.set col v.toNat }
  | 2 => { b with loop := b.loop.set row ((b.loop.getD row []).set col v.toNat) }
  | 3 => { b with channel := b.channel.set row (channelWith (b.channel.getD row {}) col v) }
  | 4 => { b with output := b.output.set row (outputWith (b.output.getD row {}) col v) }
  | 5 => { b with policy := b.policy.set row (policyWith (b.policy.getD row { severity := .note }) col v) }
  | _ => { b with station := b.station.set row (stationWith (b.station.getD row {}) col v) }

/-- A state after a write: the tables it stores, the time base, the tracker and the line state left alone (R179, R180). -/
structure Stores (s t : State) (b : Tables) : Prop where
  tab : t.tab = b
  core : runCore t = runCore s
  line : t.line.state = s.line.state

theorem stores_writeRecipe (row col v : Nat) (s : State) :
    Stores s (writeRecipe row col v s) (cellStored 0 row col v s.tab) := by
  unfold writeRecipe
  dsimp only
  split <;> exact ⟨rfl, rfl, rfl⟩

theorem state_changeoverEval (s : State) : (changeoverEval s).line.state = s.line.state := rfl

theorem stores_writeLine (row col v : Nat) (s : State) :
    Stores s (writeLine col v s) (cellStored 1 row col v s.tab) := by
  let stored : State := { s with tab.line := s.tab.line.set col v }
  let led : State := if col = 3 then recomputeLead stored else stored
  have hstill : stillTimed (writeLine col v s) = stillTimed stored := by
    simp [writeLine, stored]
  have hled : led.line = s.line := by
    show (if col = 3 then recomputeLead stored else stored).line = _
    split <;> rfl
  have hpot : (potLineWrite (evalTargets led)).line = s.line :=
    (line_of_exceptPot (exceptPot_potLineWrite _)).trans ((line_evalTargets led).trans hled)
  have hwrite : writeLine col v s = exhaustLineWrite col (changeoverEval (potLineWrite (evalTargets led))) := rfl
  have hline : (writeLine col v s).line.state = s.line.state := by
    rw [hwrite, line_of_exceptExhaust (exceptExhaust_exhaustLineWrite _ _), state_changeoverEval, hpot]
  exact ⟨tab_of_stillTimed hstill, (runCore_of_stillTimed hstill :), hline⟩

theorem stores_writeLoop (row col v : Nat) (s : State) :
    Stores s (writeLoop row col v s) (cellStored 2 row col v s.tab) := by
  let stored : State := { s with tab.loop := s.tab.loop.set row ((s.tab.loop.getD row []).set col v) }
  have hstill : stillTimed (writeLoop row col v s) = stillTimed stored := by
    simp [writeLoop, stored]
  have hwrite : (loopWrite row col stored).line = stored.line := line_of_exceptHeat (exceptHeat_loopWrite stored row col)
  have hline : (writeLoop row col v s).line.state = s.line.state := by
    unfold writeLoop
    dsimp only
    split
    · exact (state_changeoverEval _).trans (congrArg Line.state hwrite)
    · exact congrArg Line.state hwrite
  exact ⟨tab_of_stillTimed hstill, (runCore_of_stillTimed hstill :), hline⟩

theorem stores_writeChannel (row col : Nat) (v : Int) (s : State) :
    Stores s (writeChannel row col v s) (cellStored 3 row col v s.tab) := by
  unfold writeChannel
  split
  · rw [restartEntry_frame]
    exact ⟨rfl, rfl, rfl⟩
  · exact ⟨rfl, rfl, rfl⟩

theorem stores_writeOutput (row col : Nat) (v : Int) (s : State) :
    Stores s (writeOutput row col v s) (cellStored 4 row col v s.tab) := by
  unfold writeOutput
  dsimp only
  split
  · rw [endNodeFault_frame]
    exact ⟨rfl, rfl, rfl⟩
  · exact ⟨rfl, rfl, rfl⟩

theorem stores_writeCell (table row col : Nat) (v : Int) (s : State) :
    Stores s (writeCell table row col v s) (cellStored table row col v s.tab) := by
  match table with
  | 0 => exact stores_writeRecipe row col v.toNat s
  | 1 => exact stores_writeLine row col v.toNat s
  | 2 => exact stores_writeLoop row col v.toNat s
  | 3 => exact stores_writeChannel row col v s
  | 4 => exact stores_writeOutput row col v s
  | 5 => exact ⟨rfl, rfl, rfl⟩
  | _ + 6 => exact ⟨rfl, rfl, rfl⟩

/-! A run. -/

/-- What a run of values for a station entry, if any, keeps (R15, R173, R179, R184, R187). -/
structure RunKeeps (entry : Option Nat) (s t : State) : Prop where
  core : runCore t = runCore s
  pinned : ∀ row : Nat, 0 < s.trk.pins.getD row 0 → t.tab.recipe.getD row [] = s.tab.recipe.getD row []
  busy : Busy s → Busy t ∧ t.tab.line = s.tab.line ∧ t.tab.channel = s.tab.channel ∧ t.tab.output = s.tab.output ∧
    ∀ i, t.K i 5 = s.K i 5
  operated : ∀ e, entry = some e → (s.tab.station.getD e {}).cls = .operate →
    t.tab = { s.tab with recipe := t.tab.recipe, written := t.tab.written }

theorem pins_of_runCore {s t : State} (h : runCore t = runCore s) : t.trk.pins = s.trk.pins :=
  (congrArg (fun x : Time × List Nat × Pos × Nat => x.2.1) h :)

theorem RunKeeps.trans {entry : Option Nat} {s t u : State} (h1 : RunKeeps entry s t) (h2 : RunKeeps entry t u) :
    RunKeeps entry s u where
  core := h2.core.trans h1.core
  pinned row hrow := by
    have hrow' : 0 < t.trk.pins.getD row 0 := by
      rw [pins_of_runCore h1.core]
      exact hrow
    exact (h2.pinned row hrow').trans (h1.pinned row hrow)
  busy hs := by
    obtain ⟨ht, hline1, hchannel1, houtput1, hloop1⟩ := h1.busy hs
    obtain ⟨hu, hline2, hchannel2, houtput2, hloop2⟩ := h2.busy ht
    exact ⟨hu, hline2.trans hline1, hchannel2.trans hchannel1, houtput2.trans houtput1,
      fun i => (hloop2 i).trans (hloop1 i)⟩
  operated e he hcls := by
    have htab := h1.operated e he hcls
    have hcls' : (t.tab.station.getD e {}).cls = .operate := by
      rw [htab]
      exact hcls
    rw [h2.operated e he hcls', htab]

/-- A step that stores nothing. -/
theorem RunKeeps.of_tab {entry : Option Nat} {s t : State} (hcore : runCore t = runCore s) (htab : t.tab = s.tab)
    (hbusy : Busy s → Busy t) : RunKeeps entry s t where
  core := hcore
  pinned row _ := by rw [htab]
  busy hs := ⟨hbusy hs, by rw [htab], by rw [htab], by rw [htab], fun i => by rw [State.K, State.K, htab]⟩
  operated _ _ _ := by rw [htab]

theorem RunKeeps.settle {entry : Option Nat} (s : State) : RunKeeps entry s (settle s) :=
  .of_tab (runCore_of_still (still_settle s)) (tab_settle s) busy_settle

theorem getD_set_ne {α : Type} {l : List α} {i j : Nat} {a d : α} (h : i ≠ j) : (l.set i a).getD j d = l.getD j d := by
  rw [List.getD_eq_getElem?_getD, List.getD_eq_getElem?_getD, List.getElem?_set_ne h]

/-- K5 of every loop stands under a write to another column (R187). -/
theorem enable_set (l : List (List Nat)) (row : Nat) {col : Nat} (hcol : col ≠ 5) (v i : Nat) :
    ((l.set row ((l.getD row []).set col v)).getD i []).getD 5 0 = (l.getD i []).getD 5 0 := by
  by_cases hi : row = i
  · subst hi
    by_cases hrow : row < l.length
    · have hget : (l.set row ((l.getD row []).set col v)).getD row [] = (l.getD row []).set col v := by
        simp [List.getD_eq_getElem?_getD, hrow]
      rw [hget]
      exact getD_set_ne hcol
    · rw [List.set_eq_of_length_le (Nat.not_lt.mp hrow)]
  · rw [getD_set_ne hi]

/-- Only a write to the recipe table stores in the recipes. -/
theorem recipe_cellStored {table : Nat} (h : table ≠ 0) (row col : Nat) (v : Int) (b : Tables) :
    (cellStored table row col v b).recipe = b.recipe := by
  match table, h with
  | 1, _ => rfl
  | 2, _ => rfl
  | 3, _ => rfl
  | 4, _ => rfl
  | 5, _ => rfl
  | _ + 6, _ => rfl

/-- A write that R184 and R187 allow outside IDLE and SERVICE leaves the configuration. -/
theorem busy_cellStored {table col : Nat} (h : ¬(table = 1 ∨ table = 3 ∨ table = 4 ∨ (table = 2 ∧ col = 5))) (row : Nat)
    (v : Int) (b : Tables) :
    (cellStored table row col v b).line = b.line ∧ (cellStored table row col v b).channel = b.channel ∧
      (cellStored table row col v b).output = b.output ∧
      ∀ i, ((cellStored table row col v b).loop.getD i []).getD 5 0 = (b.loop.getD i []).getD 5 0 := by
  match table, h with
  | 0, _ => exact ⟨rfl, rfl, rfl, fun _ => rfl⟩
  | 1, h => exact absurd (.inl rfl) h
  | 2, h => exact ⟨rfl, rfl, rfl, fun i => enable_set b.loop row (fun hcol => h (.inr (.inr (.inr ⟨rfl, hcol⟩)))) _ i⟩
  | 3, h => exact absurd (.inr (.inl rfl)) h
  | 4, h => exact absurd (.inr (.inr (.inl rfl))) h
  | 5, _ => exact ⟨rfl, rfl, rfl, fun _ => rfl⟩
  | _ + 6, _ => exact ⟨rfl, rfl, rfl, fun _ => rfl⟩

/-- The checks that passed (R15, R173, R179, R184). -/
theorem checks_of_writeRefusal {e : Nat} {held : Bool} {c : Cursor} {v : Int} {s : State}
    (h : s.writeRefusal e held c v = none) : s.classAllows e held c.table = true ∧
      stateAllows s.line.state c.table c.col = true ∧ (c.table = 0 → s.trk.pins.getD c.row 0 = 0) := by
  unfold State.writeRefusal at h
  split at h
  · cases h
  · next hclass =>
    split at h
    · cases h
    · next hstate =>
      split at h
      · cases h
      · next hpin =>
        refine ⟨Bool.eq_true_of_not_eq_false hclass, Bool.eq_true_of_not_eq_false hstate, fun htable => ?_⟩
        by_contra hpos
        exact hpin ⟨htable, Nat.pos_of_ne_zero hpos⟩

/-- A value that no check refuses keeps what a run keeps (R179). -/
theorem runKeeps_writeCell {e : Nat} {held : Bool} {c : Cursor} {v : Int} {s : State} (w : Int)
    (h : s.writeRefusal e held c v = none) : RunKeeps (some e) s (writeCell c.table c.row c.col w s) := by
  obtain ⟨hclass, hstate, hpin⟩ := checks_of_writeRefusal h
  obtain ⟨htab, hcore, hline⟩ := stores_writeCell c.table c.row c.col w s
  refine ⟨hcore, fun row hrow => ?_, fun hs => ⟨busy_of_line hline hs, ?_⟩, fun i hi hcls => ?_⟩
  · rw [htab]
    by_cases htable : c.table = 0
    · have hne : c.row ≠ row := fun heq => absurd (hpin htable) (Nat.ne_of_gt (heq ▸ hrow))
      rw [htable]
      exact getD_set_ne hne
    · exact congrArg (fun l : List (List Nat) => l.getD row []) (recipe_cellStored htable _ _ _ _)
  · have hidle : configurable s.line.state = false := by
      obtain ⟨hidle, hservice⟩ := hs
      simp [configurable, hidle, hservice]
    have hfree : ¬(c.table = 1 ∨ c.table = 3 ∨ c.table = 4 ∨ (c.table = 2 ∧ c.col = 5)) := by
      intro hset
      rw [stateAllows, if_pos hset, hidle] at hstate
      cases hstate
    simp only [State.K]
    rw [htab]
    exact busy_cellStored hfree _ _ _
  · cases hi
    have htable : c.table = 0 := by
      have hrecipe : (c.table == 0 || s.classCell e == .service) = true := (Bool.and_eq_true_iff.mp hclass).2
      have hnot : (s.classCell e == .service) = false := by rw [State.classCell, hcls]; rfl
      rw [hnot, Bool.or_false] at hrecipe
      exact beq_iff_eq.mp hrecipe
    rw [htab, htable]
    rfl

/-- The values of a run one after another (R179). -/
theorem runKeeps_writeValues (e : Nat) (held : Bool) (ws : List Nat) (n : Nat) (clamped : Bool) (s : State) :
    RunKeeps (some e) s (writeValues e held ws n clamped s).2.2 := by
  induction ws generalizing n clamped s with
  | nil => exact .of_tab rfl rfl id
  | cons w ws ih =>
    unfold writeValues
    split
    · exact .of_tab rfl rfl id
    · dsimp only
      split
      · exact .of_tab rfl rfl id
      · next hpass =>
        refine RunKeeps.trans ?_ (ih _ _ _)
        exact ((runKeeps_writeCell _ hpass).trans (.settle _)).trans (.of_tab rfl rfl id)

theorem runKeeps_writeRun (e src : Nat) (more : Bool) (bytes : List Byte) (s : State) :
    RunKeeps (some e) s (writeRun e src more bytes s).2.2 := by
  unfold writeRun
  split
  · exact .of_tab rfl rfl id
  · exact .of_tab rfl rfl id
  · split
    · exact .of_tab rfl rfl id
    · exact (runKeeps_writeValues e _ _ _ _ s).trans (.of_tab rfl rfl id)

/-! The request (R146, R152, R154). -/

section Request
variable (src : Nat) (more : Bool) (bytes : List Byte) (s : State)

theorem runKeeps_runList : RunKeeps (s.requestingEntry src) s (runList src [.dir (.writeRun more bytes)] s).2 := by
  unfold runList
  cases hentry : s.requestingEntry src with
  | none => exact .of_tab rfl rfl id
  | some e =>
    show RunKeeps (some e) s (takeItem e src true _ _ (.writeRun more bytes) s).state
    unfold takeItem
    split
    · exact (runKeeps_writeRun e src more bytes s).trans (.settle _)
    · exact .of_tab rfl rfl id

theorem runKeeps_wakeUp (entry : Option Nat) : RunKeeps entry s s.wakeUp :=
  .of_tab (runCore_of_stillTimed (stillTimed_wakeUp s)) (tab_of_stillTimed (stillTimed_wakeUp s))
    (busy_same (congrArg State.line (State.wakeUp_frame s) :))

theorem runKeeps_requestArrives (seq : Byte) :
    RunKeeps (s.requestingEntry src) s (requestArrives src seq [.dir (.writeRun more bytes)] s) := by
  unfold requestArrives
  split
  · let reserved : State := { s with net.reserved := some s.net.upNormal.length }
    have hrun : RunKeeps (s.requestingEntry src) reserved (runList src [.dir (.writeRun more bytes)] reserved).2 :=
      runKeeps_runList src more bytes reserved
    have hreserved : RunKeeps (s.requestingEntry src) s reserved := .of_tab rfl rfl id
    refine RunKeeps.trans ?_ (runKeeps_wakeUp _ _)
    exact (hreserved.trans hrun).trans (.of_tab rfl rfl id)
  · exact .of_tab rfl rfl id

theorem tab_linkHeard (p : Port) : (linkHeard p s).tab = s.tab := by
  cases p <;> unfold linkHeard <;> dsimp only <;> split <;> rfl

theorem runKeeps_linkHeard (p : Port) (entry : Option Nat) : RunKeeps entry s (linkHeard p s) := by
  cases p <;> unfold linkHeard <;> dsimp only <;> split <;> exact .of_tab rfl rfl id

end Request

/-- A WRITE RUN whole, heard, taken and answered (R149, R179). -/
theorem runKeeps_receiveDirective (r : Requester) (more : Bool) (bytes : List Byte) (s : State) :
    RunKeeps (s.requestingEntry r.src.toNat) s (receiveDirective r (.writeRun more bytes) s) := by
  unfold receiveDirective
  split
  · exact .of_tab rfl rfl id
  · have hheard := (runKeeps_linkHeard s .up (s.requestingEntry r.src.toNat)).trans (.settle _)
    have hentry : (settle (linkHeard .up s)).requestingEntry r.src.toNat = s.requestingEntry r.src.toNat := by
      rw [State.requestingEntry, tab_settle, tab_linkHeard]
      rfl
    dsimp only
    split
    · exact hheard
    · refine hheard.trans ?_
      rw [← hentry]
      exact runKeeps_requestArrives _ _ _ _ _

/-- Settles O37, from what every value of a run keeps. -/
theorem Settled.writeRunKeeps : Obligations.WriteRunKeeps := by
  intro r values s
  have hrun := (runKeeps_receiveDirective r false (values.flatMap fun v => be 2 v.toNat) s).trans (.settle _)
  refine ⟨_, rfl, pins_of_runCore hrun.core, ?_, ?_, ?_, fun row hrow n => ?_, fun hidle hservice _ _ => ?_, hrun.operated⟩
  · exact (congrArg (fun x : Time × List Nat × Pos × Nat => x.2.2.1) hrun.core :)
  · exact (congrArg (fun x : Time × List Nat × Pos × Nat => x.1) hrun.core :)
  · exact (congrArg (fun x : Time × List Nat × Pos × Nat => x.2.2.2) hrun.core :)
  · exact congrArg (fun l : List Nat => l.getD n 0) (hrun.pinned row.val hrow)
  · exact (hrun.busy ⟨hidle, hservice⟩).2

end Sys2Proof.Proofs
end

section
/-! SUPPORT. LINE RESTART, the reports of the blocks' own restarts (R28, R61, R124): while the line is at rest and the blocks are
restarted, they change nothing but what the line controller evaluates and publishes. -/
namespace Sys2Proof.Proofs
open Sys2Proof Sys2Proof.Machine Sys2Proof.Safety

/-! Taking events of which only some can wait. -/

/-- What t holds in its mailbox, s held or Q allows. -/
def Posts (Q : Event → Prop) (s t : State) : Prop := ∀ e ∈ t.events, e ∈ s.events ∨ Q e

section Posts
variable {Q : Event → Prop} {s t u : State}

theorem posts_same (h : t.events = s.events) : Posts Q s t := fun _ he => .inl (h ▸ he)

theorem posts_add {l : List Event} (hl : ∀ e ∈ l, Q e) (h : t.events = s.events ++ l) : Posts Q s t := by
  intro e he
  rw [h] at he
  exact (List.mem_append.mp he).imp_right (hl e)

theorem Posts.trans (h1 : Posts Q s t) (h2 : Posts Q t u) : Posts Q s u :=
  fun e he => (h2 e he).elim (h1 e) .inr

/-- A property every allowed event keeps is kept by taking events, where only allowed ones wait and only such are posted. -/
theorem drain_allowed {P : State → Prop} (hm : ∀ s es, P s → P { s with events := es })
    (hh : ∀ e s, Q e → P s → P (handle e s))
    (hq : ∀ e s, Q e → P s → Posts Q s (handle e s)) (n : Nat) (s : State)
    (hs : P s) (hall : ∀ e ∈ s.events, Q e) : P (drain n s) ∧ ∀ e ∈ (drain n s).events, Q e := by
  induction n generalizing s with
  | zero => exact ⟨hs, hall⟩
  | succ n ih =>
    cases hev : s.events with
    | nil =>
      rw [drain_quiet _ hev]
      exact ⟨hs, hall⟩
    | cons e rest =>
      rw [hev] at hall
      have he : Q e := hall e List.mem_cons_self
      have hrest : ∀ x ∈ rest, Q x := fun x hx => hall x (List.mem_cons_of_mem e hx)
      rw [drain_succ n e rest hev]
      exact ih _ (hh e _ he (hm s rest hs)) fun x hx => (hq e _ he (hm s rest hs) x hx).elim (hrest x) id

end Posts

/-! The blocks after their restarts. -/

/-- A loop of which LINE RESTART has left the state, the commanded duty and a target (R61). -/
def FreshLoop (s : State) (i : Nat) : Prop := s.loopCtx i = restartedLoop (s.loopCtx i).target (s.loopCtx i)

/-- The heat controller after its restart (R61): fresh loops, the pot not molten, loop 5 at the pot setpoint. -/
def HeatFresh (s : State) : Prop :=
  s.heat.potMolten = false ∧ (∀ i, FreshLoop s i) ∧ (4 < s.heat.loops.length → (s.loopCtx 4).target = s.potSetpoint)

/-- A line at rest, an empty track, and the flux, heat and pot controllers restarted (R28, R42, R61, R94, R137). -/
def Restarted (s : State) : Prop :=
  (s.line.state = .idle ∨ s.line.state = .stopped) ∧ s.trk.track = [] ∧ s.trk.announces = [] ∧ s.pins.spray = false ∧
    (∃ lead, s.flux = fluxAtRest lead) ∧ (∃ refresh, s.pot = potAtRest refresh) ∧ HeatFresh s

/-- An event that finds nothing to do in a restarted part. -/
def Inert : Event → Prop
  | .overtempRemoved _ => True
  | .levelCriticalRecord made => made = false
  | .feedJamRemoved => True
  | .targetChanged i => 4 ≤ i
  | _ => False

section Fresh
variable {s : State} {i : Nat}

theorem fluxEvaluate_atRest {lead : Nat} (hflux : s.flux = fluxAtRest lead) (hspray : s.pins.spray = false)
    (htrack : s.trk.track = []) : fluxEvaluate s = s := by
  have hstands : ({ s with flux := fluxAtRest lead, pins.spray := false, trk.track := [] } : State) = s := by
    rw [← hflux, ← hspray, ← htrack]
  rw [← hstands]
  rfl

theorem evalGate_atRest {refresh : Nat} (hpot : s.pot = potAtRest refresh) (htrack : s.trk.track = []) : evalGate s = s := by
  have hgate : s.gateRecord = none := by rw [State.gateRecord, htrack, List.find?_nil]
  unfold evalGate
  dsimp only
  rw [hgate, hpot]
  exact congrArg (fun p => { s with pot := p }) hpot.symm

theorem mapTrack_nil (f : BoardRecord → BoardRecord) (htrack : s.trk.track = []) : s.mapTrack f = s := by
  have hstands : ({ s with trk.track := [] } : State) = s := by rw [← htrack]
  rw [← hstands]
  rfl

theorem potOnTrack_atRest {refresh : Nat} (hpot : s.pot = potAtRest refresh) (htrack : s.trk.track = []) :
    potOnTrack s = s := by
  unfold potOnTrack waveCrossings
  rw [evalGate_atRest hpot htrack]
  dsimp only
  rw [mapTrack_nil _ htrack, htrack]
  exact mapTrack_nil _ htrack

theorem derivePump_atRest {refresh : Nat} (hline : s.line.state = .idle ∨ s.line.state = .stopped)
    (hpot : s.pot = potAtRest refresh) : derivePump s = s := by
  have hpump : s.derivedPump = (0, true) := by
    unfold State.derivedPump
    rcases hline with hst | hst <;> rw [hpot, hst] <;> rfl
  have hzero : s.pot.pump = 0 := by rw [hpot]; rfl
  have hforced : s.pot.forced = true := by rw [hpot]; rfl
  have hstands : ({ s with pot.pump := 0, pot.forced := true } : State) = s := by rw [← hzero, ← hforced]
  unfold derivePump
  rw [hpump, hzero, hforced]
  exact hstands

theorem takeCriticalRecord_atRest {refresh : Nat} (hline : s.line.state = .idle ∨ s.line.state = .stopped)
    (hpot : s.pot = potAtRest refresh) : takeCriticalRecord false s = s := by
  have hstands : ({ s with pot.criticalRecord := false } : State) = s := by
    rw [hpot]
    exact congrArg (fun p => { s with pot := p }) hpot.symm
  rw [takeCriticalRecord, hstands]
  exact derivePump_atRest hline hpot

theorem feedJamRelease_atRest {refresh : Nat} (hpot : s.pot = potAtRest refresh) : feedJamRelease s = s :=
  if_neg (by rw [hpot]; exact Bool.false_ne_true)

theorem overtempReleased_fresh (h : FreshLoop s i) : overtempReleased i s = s :=
  if_neg (by rw [h]; exact Bool.false_ne_true)

/-- The tests find nothing to change in a fresh loop (R55, R57). -/
theorem inBandNow_fresh (h : FreshLoop s i) : s.inBandNow i = false := by
  rw [State.inBandNow, h]
  exact Bool.and_false _

theorem evalInBand_fresh (h : FreshLoop s i) : evalInBand i s = s := by
  have hband : (s.loopCtx i).inBand = false := by rw [h]; rfl
  unfold evalInBand
  dsimp only
  rw [inBandNow_fresh h, hband, if_pos rfl]
  exact if_neg (by simp)

/-- Writing a loop's own context changes nothing, an absent loop's included. -/
theorem setLoop_self (s : State) (i : Nat) : s.setLoop i (s.loopCtx i) = s := by
  by_cases hi : i < s.heat.loops.length
  · exact setLoop_loopCtx hi
  · rw [State.setLoop, List.set_eq_of_length_le (Nat.not_lt.mp hi)]

theorem endHeatFail_fresh (h : FreshLoop s i) : endHeatFail i s = s := by
  have hfail : (s.loopCtx i).heatFail = false := by rw [h]; rfl
  have hsame : { s.loopCtx i with heatFailTimer := 0, heatFail := false } = s.loopCtx i := by rw [h]; rfl
  unfold endHeatFail
  rw [hfail, hsame, setLoop_self]
  rfl

theorem testLoop_fresh (h : FreshLoop s i) : testLoop i s = s := by
  unfold testLoop heatFailTest
  rw [evalInBand_fresh h, endHeatFail_fresh h, ite_self]

/-- With no board and no announce a fresh loop's target stands (R52, R53). -/
theorem zoneFree_of_empty (htrack : s.trk.track = []) (hannounces : s.trk.announces = []) (i : Nat) :
    s.zoneFree i = true := by
  rw [State.zoneFree, State.governing, htrack, hannounces]
  rfl

theorem targetFor_fresh (htrack : s.trk.track = []) (hannounces : s.trk.announces = []) (h : FreshLoop s i) (hi : i ≠ 4) :
    s.targetFor i = (s.loopCtx i).target := by
  have hgoverning : s.governing i = none := by rw [State.governing, htrack, List.find?_nil]
  have hidle : (s.loopCtx i).idleTimer = 0 := by rw [h]; rfl
  have hexpired : s.idleExpired i = false := by
    rw [State.idleExpired, hidle]
    simp only [Bool.and_eq_false_imp, decide_eq_false_iff_not]
    omega
  rw [State.targetFor, if_neg hi, hgoverning, hannounces, hexpired]
  rfl

/-- A target's evaluation changes no loop; of a loop 5 that is not there it reports a change (R54). -/
theorem evalTarget_fresh (htrack : s.trk.track = []) (hannounces : s.trk.announces = []) (h : HeatFresh s) (i : Nat) :
    evalTarget i s = s ∨ evalTarget i s = s.post (.targetChanged 4) := by
  obtain ⟨-, hfresh, hpot⟩ := h
  have hfree : ¬(i < 4 ∧ s.zoneFree i = false) := by
    rw [zoneFree_of_empty htrack hannounces]
    exact fun hc => absurd hc.2 (by decide)
  unfold evalTarget
  dsimp only
  rw [if_neg hfree]
  by_cases hi : i = 4
  · subst hi
    have hsetpoint : s.targetFor 4 = s.potSetpoint := if_pos rfl
    rw [hsetpoint]
    by_cases hlen : 4 < s.heat.loops.length
    · exact .inl (if_pos (hpot hlen).symm)
    · unfold setTarget
      split
      · exact .inl rfl
      · next hne =>
        refine .inr ?_
        rw [writeTarget, if_neg hne, State.setLoop, List.set_eq_of_length_le (Nat.not_lt.mp hlen)]
        exact testLoop_fresh (s := s.post (.targetChanged 4)) (hfresh 4)
  · exact .inl (if_pos (targetFor_fresh htrack hannounces (hfresh i) hi))

/-- All targets evaluated: the state as it was, but for inert reports (R54). -/
theorem evalTargets_fresh (htrack : s.trk.track = []) (hannounces : s.trk.announces = []) (h : HeatFresh s) :
    ∃ l, (∀ e ∈ l, Inert e) ∧ evalTargets s = { s with events := s.events ++ l } := by
  refine forLoops_keeps (P := fun t => ∃ l, (∀ e ∈ l, Inert e) ∧ t = { s with events := s.events ++ l }) ?_ s
    ⟨[], fun _ he => absurd he List.not_mem_nil, by rw [List.append_nil]⟩
  rintro i _ ⟨l, hl, rfl⟩
  rcases evalTarget_fresh (s := { s with events := s.events ++ l }) htrack hannounces h i with hsame | hposts
  · exact ⟨l, hl, hsame⟩
  · refine ⟨l ++ [.targetChanged 4], fun e he => ?_, hposts.trans ?_⟩
    · rcases List.mem_append.mp he with hmem | hmem
      · exact hl e hmem
      · rw [List.mem_singleton.mp hmem]
        exact Nat.le_refl 4
    · rw [State.post, ← List.append_assoc]

end Fresh

/-! What the events of the restart change. -/

/-- The state without what the line controller evaluates (R133) and takes from the alarm unit (R129), without PERMIT, the lamps
and the mailbox. -/
def lineAside (s : State) : State :=
  { s with
    line.holding := none, line.warn := false, line.changeover := false, line.holdRecipe := none, line.admitted := none
    pins.permit := false, pins.lampG := .off, pins.lampA := .off, pins.lampR := .off, events := [] }

theorem Restarted.of_lineAside {s t : State} (h : lineAside t = lineAside s) (hs : Restarted s) : Restarted t := by
  have haside : Restarted (lineAside s) := hs
  rw [← h] at haside
  exact haside

section Events
variable {s : State} (hs : Restarted s)
include hs

theorem handle_inert {e : Event} (he : Inert e) : handle e s = s := by
  obtain ⟨hline, -, -, -, -, ⟨refresh, hpot⟩, -, hfresh, -⟩ := hs
  cases e with
  | overtempRemoved i => exact overtempReleased_fresh (hfresh i)
  | levelCriticalRecord made =>
    obtain rfl : made = false := he
    exact takeCriticalRecord_atRest hline hpot
  | feedJamRemoved => exact feedJamRelease_atRest hpot
  | targetChanged i => exact if_neg (Nat.not_lt.mpr he)
  | _ => exact absurd he id

/-- The record change of a restart ends in the changeover evaluation alone (R22, R28). -/
theorem handle_recordChange_restarted :
    ∃ l, (∀ e ∈ l, Inert e) ∧ handle (.recordChange false) s = changeoverEval { s with events := s.events ++ l } := by
  obtain ⟨-, htrack, hannounces, hspray, ⟨lead, hflux⟩, ⟨refresh, hpot⟩, hheat⟩ := hs
  obtain ⟨l, hl, hchange⟩ := evalTargets_fresh htrack hannounces hheat
  refine ⟨l, hl, ?_⟩
  show lineOnRecord false (potOnTrack (evalTargets (fluxEvaluate s))) = _
  rw [fluxEvaluate_atRest hflux hspray htrack, hchange,
    potOnTrack_atRest (s := { s with events := s.events ++ l }) hpot htrack]
  rfl

/-- The announce change of a restart likewise (R22, R28). -/
theorem handle_announceChange_restarted :
    ∃ l, (∀ e ∈ l, Inert e) ∧ handle .announceChange s = changeoverEval { s with events := s.events ++ l } := by
  obtain ⟨-, htrack, hannounces, -, -, -, hheat⟩ := hs
  obtain ⟨l, hl, hchange⟩ := evalTargets_fresh htrack hannounces hheat
  exact ⟨l, hl, congrArg changeoverEval hchange⟩

/-- No severity moves a line at rest (R129). -/
theorem actOnSeverity_atRest (h : Option Severity) : actOnSeverity h s = s := by
  obtain ⟨hline, -⟩ := hs
  have hwarmup : s.line.state ≠ .warmup := by rcases hline with hst | hst <;> rw [hst] <;> decide
  have hready : s.line.state ≠ .ready := by rcases hline with hst | hst <;> rw [hst] <;> decide
  have hstops : ¬ stopsLine s.line.state = true := by rcases hline with hst | hst <;> rw [hst] <;> decide
  have hretest : retestSettle s = s := if_neg hwarmup
  unfold actOnSeverity
  rw [if_neg hstops, if_neg hready, hretest]
  split <;> rfl

theorem handle_published_restarted (h : Option Severity) (w : Bool) :
    handle (.published h w) s = deriveLamps { s with line.holding := h, line.warn := w } :=
  actOnSeverity_atRest (s := deriveLamps { s with line.holding := h, line.warn := w }) hs h

end Events

/-- The events of a restart leave the line controller with no severity, and nothing that is not inert waits (R61, R124, R137). -/
theorem settle_restarted {s : State} {l : List Event} (hs : Restarted s)
    (hev : s.events = .recordChange false :: .announceChange :: .published none false :: l) (hl : ∀ e ∈ l, Inert e) :
    lineAside (settle s) = lineAside s ∧ (settle s).line.holding = none ∧ ∀ e ∈ (settle s).events, Inert e := by
  obtain ⟨l1, hl1, hrecord⟩ := handle_recordChange_restarted
    (s := { s with events := .announceChange :: .published none false :: l }) hs
  let t := changeoverEval { s with events := .announceChange :: .published none false :: (l ++ l1) }
  obtain ⟨l2, hl2, hannounce⟩ := handle_announceChange_restarted
    (s := { t with events := .published none false :: (l ++ l1) }) hs
  let u := changeoverEval { t with events := .published none false :: (l ++ l1 ++ l2) }
  let v := deriveLamps { u with line.holding := none, line.warn := false, events := l ++ l1 ++ l2 }
  have hpublished : handle (.published none false) { u with events := l ++ l1 ++ l2 } = v :=
    handle_published_restarted (s := { u with events := l ++ l1 ++ l2 }) hs none false
  have hthree : settle s = drain 65533 v := by
    show drain (65533 + 1 + 1 + 1) s = _
    rw [drain_succ _ _ _ hev, hrecord]
    show drain (65533 + 1 + 1) t = _
    rw [drain_succ _ _ _ (s := t) rfl, hannounce]
    show drain (65533 + 1) u = _
    rw [drain_succ _ _ _ (s := u) rfl, hpublished]
  have hinert : ∀ e ∈ v.events, Inert e := by
    intro e he
    rcases List.mem_append.mp he with hmem | hmem
    · exact (List.mem_append.mp hmem).elim (hl e) (hl1 e)
    · exact hl2 e hmem
  rw [hthree]
  have hdrained := drain_allowed (Q := Inert)
    (P := fun x => lineAside x = lineAside s ∧ x.line.holding = none) (fun _ _ h => h)
    (fun e x he hx => (handle_inert (hs.of_lineAside hx.1) he).symm ▸ hx)
    (fun e x he hx => posts_same (congrArg State.events (handle_inert (hs.of_lineAside hx.1) he)))
    65533 v ⟨rfl, rfl⟩ hinert
  exact ⟨hdrained.1.1, hdrained.1.2, hdrained.2⟩

end Sys2Proof.Proofs
end

section
/-! SUPPORT. LINE RESTART, what each block's restart leaves (R28, R42, R61, R94, R105, R124, R169): the whole state of
restartBlocks but for the DOWN queues. -/
namespace Sys2Proof.Proofs
open Sys2Proof Sys2Proof.Machine Sys2Proof.Safety

/-! A command to an output leaves the UP normal queue. -/

section UpNormal
variable {s : State}

theorem upNormal_grantSlot {s1 : State} {f : OutFn} {v : Nat} {rest : List (OutFn × Nat)} {sent : Bool}
    (h : grantSlot s f v rest = (s1, sent)) : s1.net.upNormal = s.net.upNormal := by
  unfold grantSlot at h
  split at h <;> cases h <;> rfl

theorem upNormal_arbitrateDown (n : Nat) (s : State) : (arbitrateDown n s).net.upNormal = s.net.upNormal := by
  induction n generalizing s with
  | zero => rfl
  | succ n ih =>
    unfold arbitrateDown
    split
    · split
      · rfl
      · exact ih _
    · split <;> try rfl
      all_goals
        split
        · next h => exact upNormal_grantSlot h
        · next h => exact (ih _).trans (upNormal_grantSlot h)

theorem upNormal_wakeDown (s : State) : s.wakeDown.net.upNormal = s.net.upNormal := by
  unfold State.wakeDown
  split
  · rfl
  · exact upNormal_arbitrateDown _ s

theorem upNormal_commandZero (s : State) (f : OutFn) : (s.commandZero f).net.upNormal = s.net.upNormal := by
  unfold State.commandZero
  split
  · exact upNormal_wakeDown _
  · rfl

theorem upNormal_commandValue (s : State) (f : OutFn) (v : Nat) : (s.commandValue f v).net.upNormal = s.net.upNormal := by
  unfold State.commandValue
  split
  · exact upNormal_wakeDown _
  · rfl

end UpNormal

/-- t is u but for the DOWN side of the loop interface. -/
def SameButDown (u t : State) : Prop := ∃ n : Net, n.upNormal = u.net.upNormal ∧ t = { u with net := n }

section Down
variable {s t u : State}

theorem SameButDown.refl (s : State) : SameButDown s s := ⟨s.net, rfl, rfl⟩

theorem SameButDown.trans (h1 : SameButDown s t) (h2 : SameButDown t u) : SameButDown s u := by
  obtain ⟨n, hn, rfl⟩ := h1
  obtain ⟨m, hm, rfl⟩ := h2
  exact ⟨m, hm.trans hn, rfl⟩

theorem sameButDown_commandZero (s : State) (f : OutFn) : SameButDown s (s.commandZero f) :=
  ⟨_, upNormal_commandZero s f, State.commandZero_frame s f⟩

theorem sameButDown_commandValue (s : State) (f : OutFn) (v : Nat) : SameButDown s (s.commandValue f v) :=
  ⟨_, upNormal_commandValue s f v, State.commandValue_frame s f v⟩

/-- The pot controller's restart ends in a pump forced to 0 (R87, R94). -/
theorem derivePump_restarted {refresh p : Nat} {b : Bool} (hline : s.line.state = .idle ∨ s.line.state = .stopped)
    (htrack : s.trk.track = []) (hpot : s.pot = { potAtRest refresh with pump := p, forced := b }) :
    SameButDown { s with pot := potAtRest refresh } (derivePump s) := by
  have hpump : s.derivedPump = (0, true) := by
    unfold State.derivedPump
    rcases hline with hst | hst <;> rw [hpot, hst] <;> rfl
  have hwave : (if (true && !s.pot.forced) = true then interruptWave s else s) = s := by
    rw [interruptWave, mapTrack_nil _ htrack, ite_self]
  have hset : ({ s with pot.pump := 0, pot.forced := true } : State) = { s with pot := potAtRest refresh } := by
    rw [hpot]
    rfl
  unfold derivePump
  rw [hpump]
  dsimp only
  rw [hwave, hset]
  split
  · exact .refl _
  · exact sameButDown_commandZero _ _

/-- The exhaust monitor after its restart, but for the fan command, which waits for the demand (R105). -/
def exhaustUnfanned (demand : Bool) (runOn : Option Nat) (valve : Bool) (refresh fan : Nat) : Exhaust :=
  { exhaustAtRest demand runOn valve refresh with fan := fan }

section Exhaust
variable {demand valve : Bool} {runOn : Option Nat} {refresh fan : Nat}

/-- A restarted flow supervision has nothing to reset (R101). -/
theorem applyFlow_restarted (h : s.exh = exhaustUnfanned demand runOn valve refresh fan) : applyFlow s = s := by
  have hreset : resetFlow s = s := by
    have hlow : s.exh.condFlowLow = false := by rw [h]; rfl
    have hloss : s.exh.condLoss = false := by rw [h]; rfl
    have hset : { s.exh with flowTimer := 0, stage := .one, lossTaken := false, condFlowLow := false, condLoss := false } =
        s.exh := by rw [h]; rfl
    unfold resetFlow
    rw [hlow, hloss]
    exact congrArg (fun x => { s with exh := x }) hset
  unfold applyFlow
  rw [hreset, ite_self]

theorem deriveFan_restarted (hservice : s.line.state ≠ .service)
    (h : s.exh = exhaustUnfanned demand runOn valve refresh fan) :
    SameButDown { s with exh := exhaustAtRest demand runOn valve refresh } (deriveFan s) := by
  have hdemand : s.exh.demand = demand := by rw [h]; rfl
  have hfan : s.derivedFan = if demand then 1000 else 0 := by
    rw [State.derivedFan, if_neg hservice, hdemand]
    cases demand <;> rfl
  have hset : { s.exh with fan := if demand then 1000 else 0 } = exhaustAtRest demand runOn valve refresh := by rw [h]; rfl
  unfold deriveFan
  rw [hfan]
  generalize (if demand = true then 1000 else 0) = v at hset ⊢
  dsimp only
  by_cases hsame : v = s.exh.fan
  · rw [if_pos hsame, ← hset, hsame]
    exact .refl s
  · rw [if_neg hsame, hset]
    split
    · exact sameButDown_commandZero _ _
    · exact sameButDown_commandValue _ _ _

/-- With the line at rest the restarted monitor's demand is the line's, the run-on's and the valve's (R96). -/
theorem derivedDemand_restarted (hline : s.line.state = .idle ∨ s.line.state = .stopped)
    (h : s.exh = exhaustUnfanned demand runOn valve refresh fan) :
    s.derivedDemand = (runOn.isSome || (s.line.state == .stopped || valve)) := by
  have hdemands : lineDemandsFan s.line.state = (s.line.state == .stopped) := by
    rcases hline with hst | hst <;> rw [hst] <;> rfl
  have hmanual : s.manualDemandsFan = false := by
    rw [State.manualDemandsFan]
    rcases hline with hst | hst <;> rw [hst] <;> rfl
  rw [State.derivedDemand, hdemands, hmanual, Bool.or_false, Bool.or_comm _ s.exh.runOn.isSome, Bool.or_assoc, h]
  rfl

theorem service_ne_atRest {st : LineState} (hline : st = .idle ∨ st = .stopped) : st ≠ .service := by
  rcases hline with hst | hst <;> rw [hst] <;> decide

/-- The exhaust monitor's restart ends in the fan that its demand calls for (R96, R99, R105). -/
theorem deriveDemand_restarted (hline : s.line.state = .idle ∨ s.line.state = .stopped)
    (h : s.exh = exhaustUnfanned demand runOn valve refresh fan) :
    SameButDown { s with exh := exhaustAtRest (runOn.isSome || (s.line.state == .stopped || valve)) runOn valve refresh }
      (deriveDemand s) := by
  have hservice := service_ne_atRest hline
  unfold deriveDemand
  rw [derivedDemand_restarted hline h]
  dsimp only
  split
  · next hsame =>
    have hkept : s.exh.demand = demand := by rw [h]; rfl
    rw [hsame, hkept]
    exact deriveFan_restarted hservice h
  · have hset (d : Bool) : { s.exh with demand := d } = exhaustUnfanned d runOn valve refresh fan := by rw [h]; rfl
    rw [hset, applyFlow_restarted (s := { s with exh := exhaustUnfanned _ runOn valve refresh fan }) rfl]
    exact deriveFan_restarted (s := { s with exh := exhaustUnfanned _ runOn valve refresh fan }) hservice rfl

end Exhaust

end Down

/-! The whole. -/

/-- What an owner is told of a removed record is inert (R113). -/
theorem removalReports (l : List AlarmRecord) (s : State) :
    ∃ m, (∀ e ∈ m, Inert e) ∧ l.foldl (fun t r => removalReport r t) s = { s with events := s.events ++ m } := by
  induction l generalizing s with
  | nil => exact ⟨[], fun _ he => absurd he List.not_mem_nil, by rw [List.append_nil]; rfl⟩
  | cons r l ih =>
    have hone : ∃ m, (∀ e ∈ m, Inert e) ∧ removalReport r s = { s with events := s.events ++ m } := by
      unfold removalReport
      split
      · exact ⟨[.overtempRemoved (r.source - 1)], List.forall_mem_singleton.mpr trivial, rfl⟩
      · exact ⟨[.levelCriticalRecord false], List.forall_mem_singleton.mpr rfl, rfl⟩
      · exact ⟨[.feedJamRemoved], List.forall_mem_singleton.mpr trivial, rfl⟩
      · exact ⟨[], fun _ he => absurd he List.not_mem_nil, by rw [List.append_nil]⟩
    obtain ⟨m, hm, hfirst⟩ := hone
    obtain ⟨k, hk, hrest⟩ := ih { s with events := s.events ++ m }
    refine ⟨m ++ k, fun e he => (List.mem_append.mp he).elim (hm e) (hk e), ?_⟩
    rw [List.foldl_cons, hfirst, hrest, ← List.append_assoc]

/-- The part with every block restarted, its events aside (R28, R42, R61, R94, R105, R124, R169). -/
def blocksRestarted (s : State) : State :=
  { s with
    trk := (trackerRestart s).trk, flux := fluxAtRest (s.trk.speed * s.L 3 / 1000), heat := (heatRestart s).heat
    pot := potAtRest s.pot.refresh
    exh := exhaustAtRest (s.line.state == .stopped || s.exh.valveOpen) none s.exh.valveOpen s.exh.refresh
    alm := {}, pins.spray := false, pins.trip := false
    filt.entries := List.replicate 32 {}, filt.nodeFaults := List.replicate 8 false }

/-- The blocks' restarts, their reports in their order (R137). -/
theorem restartBlocks_eq {s : State} (hquiet : s.events = []) (hline : s.line.state = .idle ∨ s.line.state = .stopped) :
    ∃ l, (∀ e ∈ l, Inert e) ∧
      SameButDown { blocksRestarted s with events := .recordChange false :: .announceChange :: .published none false :: l }
        (restartBlocks s) := by
  let a := heatRestart (fluxRestart (trackerRestart s))
  let b (n : Net) : State := { a with pot := potAtRest s.pot.refresh, net := n }
  let c (n : Net) : State := { b n with
    exh := exhaustAtRest (s.line.state == .stopped || s.exh.valveOpen) none s.exh.valveOpen s.exh.refresh }
  obtain ⟨n, hn, hpot⟩ : ∃ n : Net, n.upNormal = s.net.upNormal ∧ potRestart a = b n :=
    derivePump_restarted (refresh := s.pot.refresh) (p := s.pot.pump) (b := s.pot.forced)
      (s := { a with pot := { potAtRest s.pot.refresh with pump := s.pot.pump, forced := s.pot.forced } }) hline rfl rfl
  obtain ⟨k, hk, hexh⟩ : ∃ k : Net, k.upNormal = n.upNormal ∧ exhaustRestart (b n) = c k :=
    deriveDemand_restarted (s := { b n with exh := exhaustUnfanned s.exh.demand none s.exh.valveOpen s.exh.refresh s.exh.fan })
      hline rfl
  obtain ⟨l, hl, halarms⟩ := removalReports s.alm.records
    (State.post { c k with alm := {}, pins.trip := false } (.published none false))
  refine ⟨l, hl, k, hk.trans hn, ?_⟩
  have hreports : a.events = [.recordChange false, .announceChange] := congrArg (fun l => l ++ _ ++ _) hquiet
  have hblocks : restartBlocks s = filterRestart (alarmRestart (c k)) := by
    rw [← hexh, ← hpot]
    rfl
  have hremoved : alarmRestart (c k) = _ := halarms
  have hmail : (State.post { c k with alm := {}, pins.trip := false } (.published none false)).events =
      [.recordChange false, .announceChange, .published none false] :=
    congrArg (fun l => l ++ [Event.published none false]) hreports
  rw [hblocks, hremoved, hmail]
  rfl

end Sys2Proof.Proofs
end

section
/-! SUPPORT. LINE RESTART, the line becomes IDLE (R61, R97, R130, R137): the loops go to rest, and from STOPPED the run-on
starts. -/
namespace Sys2Proof.Proofs
open Sys2Proof Sys2Proof.Machine Sys2Proof.Safety

/-! The loops. -/

section Loop
variable {s t : State} {i : Nat}

/-- In IDLE a fresh loop is OFF (R44, R45). -/
theorem derivedLoopState_fresh (hline : s.line.state = .idle) (h : FreshLoop s i) : s.derivedLoopState i = .off := by
  have hcauses : ¬ (s.loopCtx i).causes.any = true := by rw [h]; exact Bool.false_ne_true
  have hmanual : ¬ (s.loopCtx i).manual.isSome = true := by rw [h]; exact Bool.false_ne_true
  have hcalls : ¬ callsForHeat s.line.state i = true := by rw [hline]; exact Bool.false_ne_true
  rw [State.derivedLoopState, if_neg hcauses, if_neg hmanual, if_neg hcalls, ite_self]

theorem lt_length_of_state (h : (s.loopCtx i).state ≠ .off) : i < s.heat.loops.length := by
  by_contra hlen
  rw [State.loopCtx, List.getD_eq_default _ _ (Nat.not_lt.mp hlen)] at h
  exact h rfl

/-- A fresh loop is OFF already in IDLE, or goes to rest with an urgent zero (R46, R61). -/
theorem deriveLoop_fresh (hline : s.line.state = .idle) (hmolten : s.heat.potMolten = false) (h : FreshLoop s i) :
    ((s.loopCtx i).state = .off ∧ deriveLoop i s = s) ∨
      (i < s.heat.loops.length ∧ SameButDown (s.setLoop i (loopAtRest (s.loopCtx i).target)) (deriveLoop i s)) := by
  have hoff := derivedLoopState_fresh hline h
  by_cases hstate : (s.loopCtx i).state = .off
  · exact .inl ⟨hstate, deriveLoop_same (hstate.trans hoff.symm)⟩
  · have hlen := lt_length_of_state hstate
    refine .inr ⟨hlen, ?_⟩
    let c : LoopCtx := { s.loopCtx i with state := .off, lastComp := none, idleTimer := 0 }
    let u := State.commandZero (s.setLoop i (loopAtRest (s.loopCtx i).target)) (loopFn i)
    have hzeroed : { c with duty := 0 } = loopAtRest (s.loopCtx i).target := by
      dsimp only [c]
      rw [h]
      rfl
    have hsent : sendZero i (s.setLoop i c) = u := by
      rw [sendZero, State.loopCtx_setLoop_self s i c hlen, hzeroed, setLoop_setLoop]
    have hctx : u.loopCtx i = loopAtRest (s.loopCtx i).target := by
      have hheat : u.heat = (s.setLoop i (loopAtRest (s.loopCtx i).target)).heat := by
        dsimp only [u]
        rw [State.commandZero_frame]
      rw [State.loopCtx, hheat]
      exact State.loopCtx_setLoop_self s i _ hlen
    have hfresh : FreshLoop u i := by
      rw [FreshLoop, hctx]
      rfl
    have hmelted : setMolten false u = u := by
      have hkept : u.heat.potMolten = false := by
        dsimp only [u]
        rw [State.commandZero_frame]
        exact hmolten
      exact if_pos hkept.symm
    have hrests : deriveLoop i s = u := by
      unfold deriveLoop
      dsimp only
      rw [hoff, if_neg (Ne.symm hstate)]
      dsimp only
      unfold enterRest
      dsimp only
      rw [hsent, evalInBand_fresh hfresh, endHeatFail_fresh hfresh, hmelted, ite_self]
      rfl
    rw [hrests]
    exact sameButDown_commandZero _ _

/-- The loops of s, some of them gone to rest, those done among them. -/
structure Turned (s t : State) (done : List Nat) : Prop where
  frame : ∃ loops, SameButDown { s with heat.loops := loops } t
  loop : ∀ j, t.loopCtx j = s.loopCtx j ∨ t.loopCtx j = loopAtRest (s.loopCtx j).target
  off : ∀ j ∈ done, (t.loopCtx j).state = .off

theorem Turned.step {done : List Nat} (hline : s.line.state = .idle) (hmolten : s.heat.potMolten = false)
    (hfresh : ∀ j, FreshLoop s j) (i : Nat) (h : Turned s t done) : Turned s (deriveLoop i t) (i :: done) := by
  obtain ⟨⟨loops, n, hn, rfl⟩, hloop, hoff⟩ := h
  let t : State := { s with heat.loops := loops, net := n }
  have htarget (j : Nat) : (t.loopCtx j).target = (s.loopCtx j).target := by
    rcases hloop j with hj | hj
    · rw [hj]
    · rw [hj]; rfl
  have hfreshT : FreshLoop t i := by
    rw [FreshLoop]
    rcases hloop i with hi | hi
    · rw [hi]; exact hfresh i
    · rw [hi]; rfl
  rcases deriveLoop_fresh (s := t) hline hmolten hfreshT with ⟨hstate, hsame⟩ | ⟨hlen, hdown⟩
  · rw [hsame]
    exact ⟨⟨loops, n, hn, rfl⟩, hloop, List.forall_mem_cons.mpr ⟨hstate, hoff⟩⟩
  · have hheat : (deriveLoop i t).heat = (t.setLoop i (loopAtRest (t.loopCtx i).target)).heat := by
      obtain ⟨m, -, hm⟩ := hdown
      rw [hm]
    have hctx (j : Nat) : (deriveLoop i t).loopCtx j = (t.setLoop i (loopAtRest (t.loopCtx i).target)).loopCtx j := by
      rw [State.loopCtx, hheat]
      rfl
    have hself : (deriveLoop i t).loopCtx i = loopAtRest (s.loopCtx i).target := by
      rw [hctx, State.loopCtx_setLoop_self t i _ hlen, htarget]
    have hother {j : Nat} (hij : i ≠ j) : (deriveLoop i t).loopCtx j = t.loopCtx j := by
      rw [hctx, State.loopCtx_setLoop_other t i j _ hij]
    have hset : SameButDown { s with heat.loops := loops.set i (loopAtRest (t.loopCtx i).target) }
        (t.setLoop i (loopAtRest (t.loopCtx i).target)) := ⟨n, hn, rfl⟩
    refine ⟨⟨_, hset.trans hdown⟩, fun j => ?_, fun j hj => ?_⟩
    · by_cases hij : i = j
      · subst hij
        exact .inr hself
      · rw [hother hij]
        exact hloop j
    · by_cases hij : i = j
      · subst hij
        rw [hself]
        rfl
      · rw [hother hij]
        exact hoff j ((List.mem_cons.mp hj).resolve_left (Ne.symm hij))

theorem Turned.foldl {done : List Nat} (hline : s.line.state = .idle) (hmolten : s.heat.potMolten = false)
    (hfresh : ∀ j, FreshLoop s j) (l : List Nat) (h : Turned s t done) :
    Turned s (l.foldl (fun t i => deriveLoop i t) t) (l.reverse ++ done) := by
  induction l generalizing t done with
  | nil => exact h
  | cons i l ih =>
    rw [List.reverse_cons, List.append_assoc]
    exact ih (h.step hline hmolten hfresh i)

/-- In IDLE every loop's turn takes it to rest (R61, R130). -/
theorem turned_forLoops (hline : s.line.state = .idle) (hheat : HeatFresh s) :
    Turned s (forLoops deriveLoop s) [4, 3, 2, 1, 0] := by
  obtain ⟨hmolten, hfresh, -⟩ := hheat
  have hfive : forLoops deriveLoop s = [0, 1, 2, 3, 4].foldl (fun t i => deriveLoop i t) s := rfl
  have hstart : Turned s s [] :=
    ⟨⟨s.heat.loops, .refl s⟩, fun _ => .inl rfl, fun _ h => absurd h List.not_mem_nil⟩
  rw [hfive]
  exact hstart.foldl hline hmolten hfresh [0, 1, 2, 3, 4]

/-- A loop done is at rest, where an OFF loop of s had no duty (R45, R61). -/
theorem Turned.rests {done : List Nat} (h : Turned s t done) (hfresh : FreshLoop s i) (hi : i ∈ done)
    (hduty : (s.loopCtx i).state = .off → (s.loopCtx i).duty = 0) : t.loopCtx i = loopAtRest (s.loopCtx i).target := by
  rcases h.loop i with hkept | hrests
  · have hoff := h.off i hi
    rw [hkept] at hoff
    rw [hkept, hfresh, restartedLoop, hoff, hduty hoff]
    rfl
  · exact hrests

/-- The loops stay fresh as they go to rest (R61). -/
theorem heatFresh_forLoops (hline : s.line.state = .idle) (hheat : HeatFresh s) : HeatFresh (forLoops deriveLoop s) := by
  have hturned := turned_forLoops hline hheat
  have hlength : (forLoops deriveLoop s).heat.loops.length = s.heat.loops.length :=
    forLoops_keeps (P := fun t => t.heat.loops.length = s.heat.loops.length) (f := deriveLoop)
      (fun _ _ h => length_deriveLoop.trans h) s rfl
  obtain ⟨⟨loops, n, -, hframe⟩, hloop, -⟩ := hturned
  obtain ⟨hmolten, hfresh, hpot⟩ := hheat
  refine ⟨?_, fun j => ?_, fun hlen => ?_⟩
  · rw [hframe]
    exact hmolten
  · rw [FreshLoop]
    rcases hloop j with hj | hj
    · rw [hj]; exact hfresh j
    · rw [hj]; rfl
  · have htarget : ((forLoops deriveLoop s).loopCtx 4).target = (s.loopCtx 4).target := by
      rcases hloop 4 with hj | hj
      · rw [hj]
      · rw [hj]; rfl
    rw [htarget, hpot (hlength ▸ hlen), hframe]
    rfl

end Loop

/-! The change to IDLE. -/

/-- The line state of a restart, before the other blocks take it (R130, R137). -/
def idled (s : State) : State := { s with line.state := .idle, line.settle := 0 }

/-- The run-on of a restart: STOPPED demanded the fan, IDLE does not (R97). -/
def restartRunOn (s : State) : Option Nat := if s.line.state = .stopped ∧ 0 < s.L 38 then some 0 else none

/-- The part once a restart has made the line IDLE, with the heat controller the loops' turns leave (R61, R97, R130, R134,
R137). -/
def lineIdled (heat : Heat) (s : State) : State :=
  { idled s with
    heat := heat
    exh := exhaustAtRest ((restartRunOn s).isSome || s.exh.valveOpen) (restartRunOn s) s.exh.valveOpen s.exh.refresh
    pins.permit := false
    pins.hold := if s.line.state = .stopped then false else s.pins.hold }

section Idle
variable {s : State}

theorem restarted_idled (hs : Restarted s) : Restarted (idled s) := ⟨.inl rfl, hs.2⟩

theorem restarted_lineIdled (hs : Restarted s) : Restarted (lineIdled (forLoops deriveLoop (idled s)).heat s) := by
  obtain ⟨hline, htrack, hannounces, hspray, hflux, hpot, hheat⟩ := restarted_idled hs
  have hfresh := heatFresh_forLoops rfl hheat
  obtain ⟨⟨loops, n, -, hframe⟩, -, -⟩ := turned_forLoops rfl hheat
  rw [hframe] at hfresh ⊢
  exact ⟨hline, htrack, hannounces, hspray, hflux, hpot, hfresh⟩

/-- The exhaust monitor's part, with the run-on the line state gives it (R96, R97). -/
theorem deriveDemand_idled (hs : Restarted s) (runOn : Option Nat) {demand valve : Bool}
    {refresh : Nat} :
    SameButDown { idled s with
        heat := (forLoops deriveLoop (idled s)).heat, exh := exhaustAtRest (runOn.isSome || valve) runOn valve refresh }
      (deriveDemand { forLoops deriveLoop (idled s) with exh := exhaustAtRest demand runOn valve refresh }) := by
  obtain ⟨-, -, -, -, -, -, hheat⟩ := restarted_idled hs
  obtain ⟨⟨loops, n, hn, hturned⟩, -, -⟩ := turned_forLoops rfl hheat
  rw [hturned]
  obtain ⟨m, hm, hdemand⟩ := deriveDemand_restarted (demand := demand) (runOn := runOn) (valve := valve)
    (refresh := refresh) (fan := if demand then 1000 else 0)
    (s := { idled s with heat.loops := loops, exh := exhaustAtRest demand runOn valve refresh, net := n }) (.inl rfl) rfl
  exact ⟨m, hm.trans hn, hdemand⟩

/-- The blocks' part of a restart's change of the line state is the loops' and the exhaust monitor's (R130). -/
theorem blocksOnLine_idled {demand valve : Bool} {refresh : Nat} (hs : Restarted s) (hstopped : s.line.state = .stopped)
    (hexh : s.exh = exhaustAtRest demand none valve refresh) : blocksOnLine .stopped (idled s) =
      deriveDemand { forLoops deriveLoop (idled s) with exh := exhaustAtRest demand (restartRunOn s) valve refresh } := by
  obtain ⟨-, htrack, -, -, ⟨lead, hflux⟩, ⟨potRefresh, hpot⟩, hheat⟩ := restarted_idled hs
  obtain ⟨⟨loops, n, hn, hturned⟩, -, -⟩ := turned_forLoops rfl hheat
  let t : State := { idled s with heat.loops := loops, net := n }
  have hloops : heatOnLine .stopped (idled s) = t := hturned
  have heligible : recomputeEligible t = t := by
    have hflag : t.flux.eligible = false := by
      show (idled s).flux.eligible = false
      rw [hflux]
      rfl
    exact if_pos hflag.symm
  have hfeeder : deriveFeeder t = t := by
    have hjam : t.pot.jam = false := by
      show (idled s).pot.jam = false
      rw [hpot]
      rfl
    have hoff : t.pot.feeder = .off := by
      show (idled s).pot.feeder = .off
      rw [hpot]
      rfl
    have hcause : t.feederOffCause = true := rfl
    unfold deriveFeeder
    rw [hjam, hoff, hcause]
    rfl
  have hcommand : deriveFeederCmd t = t := by
    have hdrive : t.derivedFeeder = t.pot.feederCmd := by
      show (idled s).pot.feedDrive = (idled s).pot.feederCmd
      rw [hpot]
      rfl
    exact if_pos hdrive
  have hpotted : potOnLine .stopped t = t := by
    show derivePump (deriveFeederCmd (deriveFeeder t)) = t
    rw [hfeeder, hcommand]
    exact derivePump_atRest (.inl rfl) hpot
  have hrunOn : runOnAfter t .stopped .idle = restartRunOn s := by
    have hafter : runOnAfter t .stopped .idle = if s.L 38 * 1000 = 0 then none else some 0 := rfl
    rw [hafter, restartRunOn, hstopped]
    by_cases hzero : s.L 38 = 0
    · rw [if_pos (by rw [hzero]), if_neg (by omega)]
    · rw [if_neg (by omega), if_pos ⟨rfl, Nat.pos_of_ne_zero hzero⟩]
  have hset : { t.exh with
      runOn := restartRunOn s
      manualFan := if LineState.stopped = .service then none else t.exh.manualFan } =
        exhaustAtRest demand (restartRunOn s) valve refresh := by
    show { s.exh with runOn := restartRunOn s, manualFan := s.exh.manualFan } = _
    rw [hexh]
    rfl
  unfold blocksOnLine
  rw [hloops, heligible, hpotted, hturned]
  show filterOnLine .stopped (deriveDemand { t with exh := { t.exh with
    runOn := runOnAfter t .stopped .idle
    manualFan := if LineState.stopped = .service then none else t.exh.manualFan } }) = _
  rw [hrunOn, hset]
  exact if_neg (by decide)

/-- An offer to the UP normal queue with room posts nothing (R152). -/
theorem offerUpNormal_room (hroom : s.net.upNormal.length < 15) (n : Telegram) : (s.offerUpNormal n).events = s.events := by
  have hplace : ¬ Config.upNormalCapacity ≤ s.upNormalOccupancy := by
    have hreserved : (if s.net.reserved.isSome then 1 else 0) ≤ 1 := by split <;> omega
    rw [State.upNormalOccupancy, Nat.not_le]
    exact Nat.lt_of_le_of_lt (Nat.add_le_add_left hreserved _) (Nat.succ_lt_succ hroom)
  unfold State.offerUpNormal
  rw [if_neg hplace]
  split
  · rfl
  · rw [State.wakeUp_frame]

/-- A restart in IDLE derives the loops afresh, the fan and the lamps (R61, R137). -/
theorem restartToIdle_idle {demand valve : Bool} {refresh : Nat} (hs : Restarted s)
    (hexh : s.exh = exhaustAtRest demand none valve refresh) (hline : s.line.state = .idle) (hsettle : s.line.settle = 0)
    (hpermit : s.pins.permit = false) :
    SameButDown (deriveLamps (lineIdled (forLoops deriveLoop (idled s)).heat s)) (restartToIdle s) := by
  have hsame : idled s = s := by
    rw [idled, ← hline, ← hsettle]
  have hrunOn : restartRunOn s = none := if_neg (by rw [hline]; exact fun h => nomatch h.1)
  have hpins : { s.pins with permit := false, hold := if s.line.state = .stopped then false else s.pins.hold } = s.pins := by
    rw [if_neg (by rw [hline]; decide), ← hpermit]
  have hidled : lineIdled (forLoops deriveLoop (idled s)).heat s = { s with
      heat := (forLoops deriveLoop s).heat, exh := exhaustAtRest valve none valve refresh } := by
    have hvalve : s.exh.valveOpen = valve := by rw [hexh]; rfl
    have hrefresh : s.exh.refresh = refresh := by rw [hexh]; rfl
    rw [lineIdled, hsame, hrunOn, hvalve, hrefresh]
    exact congrArg (fun p => { s with
      heat := (forLoops deriveLoop s).heat, exh := exhaustAtRest valve none valve refresh, pins := p }) hpins
  have hkept : ({ forLoops deriveLoop s with exh := exhaustAtRest demand none valve refresh } : State) =
      forLoops deriveLoop s := by
    obtain ⟨-, -, -, -, -, -, hheat⟩ := hs
    obtain ⟨⟨loops, m, -, hturned⟩, -, -⟩ := turned_forLoops hline hheat
    rw [hturned, ← hexh]
  obtain ⟨n, hn, hdemand⟩ := deriveDemand_idled (demand := demand) (valve := valve) (refresh := refresh) hs none
  rw [hsame, hkept] at hdemand
  refine ⟨n, hn, ?_⟩
  rw [restartToIdle, if_pos hline, hdemand, hidled]
  rfl

/-- A restart in STOPPED is a change of the line state; its notice, where it finds no room, posts LINK_OVERRUN (R97, R130, R137,
R152). -/
theorem restartToIdle_stopped {demand valve : Bool} {refresh : Nat} (hs : Restarted s)
    (hexh : s.exh = exhaustAtRest demand none valve refresh) (hline : s.line.state = .stopped) :
    ∃ t, SameButDown (deriveLamps (lineIdled (forLoops deriveLoop (idled s)).heat s)) t ∧
      restartToIdle s = t.offerUpNormal (noticeLineState .stopped .idle .lineRestart s.line.clock) := by
  have hvalve : s.exh.valveOpen = valve := by rw [hexh]; rfl
  have hrefresh : s.exh.refresh = refresh := by rw [hexh]; rfl
  have hold : (if s.line.state = .stopped then false else s.pins.hold) = false := if_pos hline
  obtain ⟨n, hn, hdemand⟩ := deriveDemand_idled (demand := demand) (valve := valve) (refresh := refresh) hs (restartRunOn s)
  rw [← blocksOnLine_idled hs hline hexh] at hdemand
  refine ⟨{ deriveLamps (lineIdled (forLoops deriveLoop (idled s)).heat s) with net := n }, ⟨n, hn, rfl⟩, ?_⟩
  have hidled : deriveHold (derivePermit (blocksOnLine .stopped (idled s))) =
      { lineIdled (forLoops deriveLoop (idled s)).heat s with net := n } := by
    rw [hdemand, lineIdled, hvalve, hrefresh, hold]
    generalize (forLoops deriveLoop (idled s)).heat = heat
    generalize exhaustAtRest _ _ _ _ = exh
    rfl
  rw [restartToIdle, if_neg (by rw [hline]; decide)]
  show (deriveLamps (deriveHold (derivePermit (blocksOnLine s.line.state (idled s))))).offerUpNormal
    (noticeLineState s.line.state .idle .lineRestart s.line.clock) = _
  rw [hline, hidled]
  rfl

end Idle

end Sys2Proof.Proofs
end

section
/-! SUPPORT. LINE RESTART, after the line is IDLE: what still waits, LINK_OVERRUN among it where the notice found no room, changes
the alarm unit and what it publishes, and nothing else (R115, R129, R152). -/
namespace Sys2Proof.Proofs
open Sys2Proof Sys2Proof.Machine Sys2Proof.Safety

/-- The state without the alarm unit and what it drives and publishes, the loop interface and the mailbox. -/
def unpublished (s : State) : State :=
  { exceptAlarm s with
    line.holding := none, line.warn := false, pins.lampG := .off, pins.lampA := .off, pins.lampR := .off }

/-- No record, no LIST_FULL, nothing published, TRIP negated (R124). -/
def Unalarmed (s : State) : Prop := s.alm = {} ∧ s.line.holding = none ∧ s.pins.trip = false

/-- An event that a restarted part passes on to the alarm unit and the line controller, or that is inert. -/
def Passing : Event → Prop
  | .raise k _ _ => k = .linkOverrun
  | .published _ _ => True
  | e => Inert e

theorem passing_of_inert {e : Event} (h : Inert e) : Passing e := by
  cases e with
  | raise _ _ _ => exact absurd h id
  | published _ _ => exact trivial
  | _ => exact h

/-! What the alarm unit posts for a raise of LINK_OVERRUN. -/

section Posts
variable {s t : State}

theorem posts_offerUpNormal (n : Telegram) (s : State) : Posts Passing s (s.offerUpNormal n) :=
  (State.offerUpNormal_events s n).elim posts_same (posts_add (List.forall_mem_singleton.mpr rfl))

theorem posts_offerUpUrgent (n : Telegram) (s : State) : Posts Passing s (s.offerUpUrgent n) := by
  unfold State.offerUpUrgent
  split
  · exact posts_same rfl
  · split
    · exact posts_offerUpNormal n s
    · rw [State.wakeUp_frame]
      exact posts_same rfl

theorem posts_offerAlarmNotice (r : AlarmRecord) (n : Telegram) (s : State) : Posts Passing s (offerAlarmNotice r n s) := by
  unfold offerAlarmNotice
  split
  · exact posts_same rfl
  · split
    · exact posts_offerUpUrgent n s
    · exact posts_offerUpUrgent n s
    · exact posts_offerUpNormal n s
    · exact posts_offerUpNormal n s

theorem posts_evaluateHolding (s : State) : Posts Passing s (evaluateHolding s) := by
  unfold evaluateHolding
  dsimp only
  split
  · exact posts_same rfl
  · exact posts_add (l := [.published s.alm.holdingNow s.alm.warnNow]) (List.forall_mem_singleton.mpr trivial) rfl

theorem posts_removalReport (r : AlarmRecord) (s : State) : Posts Passing s (removalReport r s) := by
  obtain ⟨m, hm, hreport⟩ := removalReports [r] s
  exact posts_add (fun e he => passing_of_inert (hm e he)) (congrArg State.events hreport)

theorem posts_testListFull (s : State) : Posts Passing s (testListFull s) := by
  unfold testListFull
  split
  · exact posts_same rfl
  · split
    · exact posts_same rfl
    · split
      · exact posts_offerAlarmNotice _ _ { s with alm.listFull := _ }
      · exact posts_same rfl
      · exact posts_same rfl

theorem posts_appendRecord (r : AlarmRecord) (s : State) : Posts Passing s (appendRecord r s) :=
  posts_offerAlarmNotice r (noticeRaised r) { s with alm.records := s.alm.records ++ [r] }

theorem posts_takeUpListFull (k : AlarmKind) (sev : Severity) (s : State) : Posts Passing s (takeUpListFull k sev s) := by
  unfold takeUpListFull
  split
  · exact posts_offerAlarmNotice _ _ { s with alm.listFull := _ }
  · dsimp only
    split
    · exact posts_offerAlarmNotice _ _ { s with alm.listFull := _ }
    · exact posts_same rfl

theorem posts_linkOverrun (n : Nat) (v : Option Int) (s : State) : Posts Passing s (alarmRaise .linkOverrun n v s) := by
  rw [alarmRaise, if_neg (by decide)]
  unfold takeRaise
  split
  · dsimp only
    refine .trans ?_ (posts_evaluateHolding _)
    split
    · exact posts_offerAlarmNotice _ _ (replaceRecord _ s)
    · exact posts_same rfl
  · dsimp only
    have hcreated (u : State) : creationReport .linkOverrun u = u := if_neg (by decide)
    split
    · rw [hcreated]
      exact (posts_appendRecord _ s).trans (posts_evaluateHolding _)
    · split
      · next victim _ =>
        rw [hcreated]
        have hremoved : Posts Passing s (removeRecord victim s) :=
          posts_testListFull { s with alm.records := s.alm.records.filter fun x => !x.isFor victim.kind victim.source }
        exact ((hremoved.trans (posts_appendRecord _ _)).trans (posts_evaluateHolding _)).trans (posts_removalReport _ _)
      · rw [if_neg (by decide)]
        split
        · exact posts_same rfl
        · exact (posts_takeUpListFull _ _ s).trans (posts_evaluateHolding _)

end Posts

/-! Taking what waits. -/

section Settle
variable {s t : State}

theorem Restarted.of_unpublished (h : unpublished t = unpublished s) (hs : Restarted s) : Restarted t := by
  have hseen : Restarted (unpublished s) := hs
  rw [← h] at hseen
  exact hseen

theorem handle_passing (hs : Restarted s) {e : Event} (he : Passing e) :
    unpublished (handle e s) = unpublished s ∧ Posts Passing s (handle e s) := by
  have inert (hi : Inert e) : unpublished (handle e s) = unpublished s ∧ Posts Passing s (handle e s) := by
    rw [handle_inert hs hi]
    exact ⟨rfl, posts_same rfl⟩
  cases e with
  | raise k n v =>
    obtain rfl : k = .linkOverrun := he
    exact ⟨congrArg (fun x : State => { x with
      line.holding := none, line.warn := false, pins.lampG := .off, pins.lampA := .off, pins.lampR := .off })
      (exceptAlarm_alarmRaise s .linkOverrun n v), posts_linkOverrun n v s⟩
  | published h w =>
    rw [handle_published_restarted hs]
    exact ⟨rfl, posts_same rfl⟩
  | _ => exact inert he

theorem settle_passing (hs : Restarted s) (hall : ∀ e ∈ s.events, Passing e) :
    unpublished (settle s) = unpublished s ∧ ∀ e ∈ (settle s).events, Passing e :=
  drain_allowed (P := fun x => unpublished x = unpublished s) (fun _ _ h => h)
    (fun _ _ he hx => (handle_passing (hs.of_unpublished hx) he).1.trans hx)
    (fun _ _ he hx => (handle_passing (hs.of_unpublished hx) he).2) Config.cascadeFuel s rfl hall

theorem settle_unalarmed (hs : Restarted s) (halarm : Unalarmed s) (hall : ∀ e ∈ s.events, Inert e) :
    Unalarmed (settle s) ∧ ∀ e ∈ (settle s).events, Inert e := by
  have hdrained := drain_allowed (Q := Inert) (P := fun x => unpublished x = unpublished s ∧ Unalarmed x) (fun _ _ h => h)
    (fun _ _ he hx => (handle_inert (hs.of_unpublished hx.1) he).symm ▸ hx)
    (fun _ _ he hx => posts_same (congrArg State.events (handle_inert (hs.of_unpublished hx.1) he)))
    Config.cascadeFuel s ⟨rfl, halarm⟩ hall
  exact ⟨hdrained.1.2, hdrained.2⟩

theorem answered_frame (r : Requester) (bytes : List Byte) (s : State) :
    answered r bytes s = { s with net := (answered r bytes s).net } := by
  unfold answered fillReply
  dsimp only
  rw [State.wakeUp_frame]

/-- The end of a restart's request: its answer and what waits before and after it. -/
theorem settle_answered_passing (r : Requester) (bytes : List Byte) (hs : Restarted s) (hall : ∀ e ∈ s.events, Passing e) :
    unpublished (settle (answered r bytes (settle s))) = unpublished s := by
  obtain ⟨hfirst, hwait⟩ := settle_passing hs hall
  have hanswer : unpublished (answered r bytes (settle s)) = unpublished s := by
    rw [answered_frame]
    exact hfirst
  have hmail : (answered r bytes (settle s)).events = (settle s).events := by rw [answered_frame]
  rw [← hmail] at hwait
  exact (settle_passing (hs.of_unpublished hanswer) hwait).1.trans hanswer

theorem settle_answered_unalarmed (r : Requester) (bytes : List Byte) (hs : Restarted s) (halarm : Unalarmed s)
    (hall : ∀ e ∈ s.events, Inert e) : Unalarmed (settle (answered r bytes (settle s))) := by
  obtain ⟨hfirst, -⟩ := settle_passing hs fun e he => passing_of_inert (hall e he)
  obtain ⟨hstill, hwait⟩ := settle_unalarmed hs halarm hall
  have hanswer : unpublished (answered r bytes (settle s)) = unpublished s := by
    rw [answered_frame]
    exact hfirst
  have hkept : Unalarmed (answered r bytes (settle s)) := by
    rw [answered_frame]
    exact hstill
  have hmail : (answered r bytes (settle s)).events = (settle s).events := by rw [answered_frame]
  rw [← hmail] at hwait
  exact (settle_unalarmed (hs.of_unpublished hanswer) hkept hwait).1

end Settle

end Sys2Proof.Proofs
end

section
/-! SUPPORT. LINE RESTART whole (R28, R42, R61, R94, R97, R105, R124, R137, R169). -/
namespace Sys2Proof.Proofs
open Sys2Proof Sys2Proof.Machine Sys2Proof.Safety

/-- The state a restart leaves, with the loops it leaves, as `unpublished` shows it; y is the state of the restarted blocks. -/
def restartImage (heat : Heat) (y : State) : State := unpublished (lineIdled heat (lineRestartFields y))

theorem restartImage_lineAside (heat : Heat) (y : State) : restartImage heat (lineAside y) = restartImage heat y := rfl

/-- In IDLE the line's own restart leaves the settle timer 0 and PERMIT negated (R131, R137). -/
theorem lineRestartFields_idle {v : State} (hidle : v.line.state = .idle) :
    (lineRestartFields v).line.settle = 0 ∧ (lineRestartFields v).pins.permit = false := by
  refine ⟨rfl, ?_⟩
  show (v.line.state == .ready && _ && _ && _) = false
  rw [hidle]
  rfl

/-- v is s with its blocks restarted and their events taken. -/
structure BlocksSettled (s v : State) : Prop where
  aside : lineAside v = lineAside { blocksRestarted s with net := v.net }
  room : v.net.upNormal = s.net.upNormal
  holding : v.line.holding = none
  waiting : ∀ e ∈ v.events, Inert e

section Restart
variable {s : State} (hquiet : s.events = []) (hline : s.line.state = .idle ∨ s.line.state = .stopped)

theorem loopCtx_heatRestart {i : Nat} (hi : i < s.heat.loops.length) : (heatRestart s).loopCtx i =
    restartedLoop (if i = 4 then s.L 23 else 0) (s.loopCtx i) := by
  simp [heatRestart, State.loopCtx, List.getD, hi, State.potSetpoint]

theorem loopCtx_absent {i : Nat} (hi : ¬ i < s.heat.loops.length) : s.loopCtx i = {} :=
  List.getD_eq_default _ _ (Nat.not_lt.mp hi)

theorem length_heatRestart (s : State) : (heatRestart s).heat.loops.length = s.heat.loops.length := List.length_mapIdx

theorem heatFresh_heatRestart (s : State) : HeatFresh (heatRestart s) := by
  refine ⟨rfl, fun i => ?_, fun hlen => ?_⟩
  · by_cases hi : i < s.heat.loops.length
    · rw [FreshLoop, loopCtx_heatRestart hi]
      rfl
    · rw [FreshLoop, loopCtx_absent (by rwa [length_heatRestart])]
      rfl
  · rw [loopCtx_heatRestart (by rwa [length_heatRestart] at hlen)]
    rfl

include hline

theorem restarted_blocksRestarted : Restarted (blocksRestarted s) :=
  ⟨hline, rfl, rfl, rfl, ⟨_, rfl⟩, ⟨_, rfl⟩, heatFresh_heatRestart s⟩

include hquiet

/-- The blocks restarted and their events taken (R137). -/
theorem blocksSettled : BlocksSettled s (settle (restartBlocks s)) := by
  obtain ⟨l, hl, n, hn, hblocks⟩ := restartBlocks_eq hquiet hline
  have hs : Restarted (restartBlocks s) := by
    rw [hblocks]
    exact restarted_blocksRestarted hline
  obtain ⟨haside, hholding, hinert⟩ := settle_restarted hs (by rw [hblocks]) hl
  have hnet : (settle (restartBlocks s)).net = n := by
    have hkept : (settle (restartBlocks s)).net = (restartBlocks s).net := (congrArg State.net haside :)
    rw [hkept, hblocks]
  refine ⟨?_, ?_, hholding, hinert⟩
  · rw [haside, hnet, hblocks]
    rfl
  · rw [hnet]
    exact hn

end Restart

section Settled
variable {s v : State} (h : BlocksSettled s v) (hline : s.line.state = .idle ∨ s.line.state = .stopped)
include h

theorem BlocksSettled.state : v.line.state = s.line.state := (congrArg (fun y : State => y.line.state) h.aside :)
theorem BlocksSettled.exh : v.exh = (blocksRestarted s).exh := (congrArg State.exh h.aside :)

theorem BlocksSettled.heat : v.heat = (heatRestart s).heat := (congrArg State.heat h.aside :)

/-- The change to IDLE shows as the image of the restarted blocks. -/
theorem BlocksSettled.image (heat : Heat) :
    unpublished (lineIdled heat (lineRestartFields v)) = restartImage heat (blocksRestarted s) :=
  calc restartImage heat v
    _ = restartImage heat (lineAside v) := (restartImage_lineAside heat v).symm
    _ = restartImage heat (lineAside { blocksRestarted s with net := v.net }) := congrArg (restartImage heat) h.aside
    _ = restartImage heat (blocksRestarted s) := restartImage_lineAside heat { blocksRestarted s with net := v.net }

theorem BlocksSettled.unalarmed (heat : Heat) : Unalarmed (lineIdled heat (lineRestartFields v)) :=
  ⟨(congrArg State.alm h.aside :), h.holding, (congrArg (fun y : State => y.pins.trip) h.aside :)⟩

include hline

theorem BlocksSettled.restarted : Restarted (lineRestartFields v) :=
  Restarted.of_lineAside (s := { blocksRestarted s with net := v.net }) (t := v) h.aside (restarted_blocksRestarted hline)

/-- The loops' turns as the line becomes IDLE leave the pot not molten and every loop of a sound heat controller at rest (R61). -/
theorem BlocksSettled.loops : (forLoops deriveLoop (idled (lineRestartFields v))).heat.potMolten = false ∧
    (HeatInv s → ∀ i, i < 5 →
      (forLoops deriveLoop (idled (lineRestartFields v))).heat.loops.getD i {} =
        loopAtRest (if i = 4 then s.L 23 else 0)) := by
  have hs : Restarted (idled (lineRestartFields v)) := restarted_idled (h.restarted hline)
  obtain ⟨-, -, -, -, -, -, hheat⟩ := hs
  have hturned := turned_forLoops rfl hheat
  refine ⟨?_, fun hinv i hi => ?_⟩
  · obtain ⟨⟨loops, n, -, hframe⟩, -, -⟩ := hturned
    obtain ⟨hmolten, -, -⟩ := hheat
    rw [hframe]
    exact hmolten
  · have hlen : i < s.heat.loops.length := hinv.five.symm ▸ hi
    have hctx : (idled (lineRestartFields v)).loopCtx i = restartedLoop (if i = 4 then s.L 23 else 0) (s.loopCtx i) := by
      rw [← loopCtx_heatRestart hlen, State.loopCtx, State.loopCtx, ← h.heat]
      rfl
    obtain ⟨-, hfresh, -⟩ := hheat
    have hrests := hturned.rests (i := i) (hfresh i) (by simp only [List.mem_cons]; omega) fun hoff => by
      rw [hctx] at hoff ⊢
      exact (hinv.each i hi).rest (.inl hoff)
    rw [← State.loopCtx, hrests, hctx]
    rfl

/-- The line IDLE: the image, and what then waits (R97, R130, R137, R152). -/
theorem BlocksSettled.restartToIdle : ∃ x, Machine.restartToIdle (lineRestartFields v) = x ∧
    unpublished x = restartImage (forLoops deriveLoop (idled (lineRestartFields v))).heat (blocksRestarted s) ∧
    (∀ e ∈ x.events, Passing e) ∧ (s.net.upNormal.length < 15 → Unalarmed x ∧ ∀ e ∈ x.events, Inert e) := by
  refine ⟨_, rfl, ?_⟩
  have hs := h.restarted hline
  have hpassing : ∀ e ∈ v.events, Passing e := fun e he => passing_of_inert (h.waiting e he)
  have hexh : (lineRestartFields v).exh = _ := h.exh
  rcases hs.1 with hidle | hstopped
  · obtain ⟨hsettle, hpermit⟩ := lineRestartFields_idle (v := v) hidle
    obtain ⟨n, -, hx⟩ := restartToIdle_idle hs hexh hidle hsettle hpermit
    rw [hx, ← h.image]
    generalize (forLoops deriveLoop (idled (lineRestartFields v))).heat = heat
    exact ⟨rfl, hpassing, fun _ => ⟨h.unalarmed heat, h.waiting⟩⟩
  · obtain ⟨t, ⟨n, hn, ht⟩, hx⟩ := restartToIdle_stopped hs hexh hstopped
    generalize (forLoops deriveLoop (idled (lineRestartFields v))).heat = heat at hn ht ⊢
    have htimage : unpublished t = restartImage heat (blocksRestarted s) := by
      rw [ht, ← h.image]
      rfl
    have htalarm : Unalarmed t := by
      rw [ht]
      exact h.unalarmed heat
    have htmail : t.events = v.events := by rw [ht]; rfl
    have htroom : t.net.upNormal = s.net.upNormal := by
      rw [ht]
      exact hn.trans h.room
    rw [hx]
    refine ⟨?_, ?_, ?_⟩
    · rw [State.offerUpNormal_frame]
      exact htimage
    · exact fun e he => (posts_offerUpNormal _ t e he).elim (fun hm => hpassing e (htmail ▸ hm)) id
    · intro hroom
      have hmail := offerUpNormal_room (s := t) (by rwa [htroom])
        (noticeLineState .stopped .idle .lineRestart (lineRestartFields v).line.clock)
      refine ⟨?_, ?_⟩
      · rw [State.offerUpNormal_frame]
        exact htalarm
      · rw [hmail, htmail]
        exact h.waiting

theorem BlocksSettled.restarted_of_image {x : State}
    (hx : unpublished x = restartImage (forLoops deriveLoop (idled (lineRestartFields v))).heat (blocksRestarted s)) :
    Restarted x := by
  rw [← h.image] at hx
  exact (restarted_lineIdled (h.restarted hline)).of_unpublished hx

end Settled

/-! The directive. -/

section Directive
variable {r : Requester} {e : Nat} {s : State}

/-- LINE RESTART is refused to a station of class OPERATE (R137, R173). -/
theorem directive_lineRestart_operate (h : Accepts r e s) (hclass : (s.tab.station.getD e {}).cls = .operate) :
    directive e r.src.toNat true .lineRestart (taken s) = plain (.refused .access, taken s) := by
  have hservice : (taken s).isService e r.src.toNat = (s.classCell e == .service) := isService_entry (s := taken s) h.entry
  have hcell : s.classCell e = .operate := hclass
  refine congrArg plain (if_neg ?_)
  rw [hservice, hcell]
  decide

theorem directive_lineRestart_service (h : Accepts r e s) (hclass : (s.tab.station.getD e {}).cls = .service)
    {a : Result × State} (ha : Machine.lineRestart (taken s) = a) :
    directive e r.src.toNat true .lineRestart (taken s) = plain a := by
  have hservice : (taken s).isService e r.src.toNat = (s.classCell e == .service) := isService_entry (s := taken s) h.entry
  have hcell : s.classCell e = .service := hclass
  refine congrArg plain ((if_pos ?_).trans ha)
  rw [hservice, hcell]
  rfl

theorem heatInv_taken (h : HeatInv s) : HeatInv (taken s) :=
  ⟨h.five, fun i hi =>
    have loop := h.each i hi
    ⟨loop.state, loop.duty, loop.rest, loop.cold, loop.manual, loop.integrator⟩⟩

theorem lineRestart_refused (hidle : s.line.state ≠ .idle) (hstopped : s.line.state ≠ .stopped) :
    Machine.lineRestart (taken s) = (.refused .state, taken s) := by
  refine if_neg ?_
  rw [restartAllowed, Bool.or_eq_true, beq_iff_eq, beq_iff_eq]
  exact not_or.mpr ⟨hidle, hstopped⟩

theorem lineRestart_done (hline : s.line.state = .idle ∨ s.line.state = .stopped) :
    Machine.lineRestart (taken s) =
      (.done, Machine.restartToIdle (lineRestartFields (settle (restartBlocks (taken s))))) := by
  refine if_pos ?_
  rw [restartAllowed, Bool.or_eq_true, beq_iff_eq, beq_iff_eq]
  exact hline

end Directive

theorem address_of_still {s t : State} (h : still t = still s) : t.net.address = s.net.address :=
  (congrArg (fun y : State => y.net.address) h :)

/-- The station address stands through a restart (R137, R154). -/
theorem address_restart (s : State) :
    (Machine.restartToIdle (lineRestartFields (settle (restartBlocks s)))).net.address = s.net.address := by
  have hfilter (u : State) : (filterRestart u).net.address = u.net.address := rfl
  calc
    _ = (settle (restartBlocks s)).net.address := address_of_still
      ((leavesStill_restartToIdle _).still.trans (still_of_stillTimed (stillTimed_lineRestartFields _)))
    _ = (restartBlocks s).net.address := address_of_still (still_settle _)
    _ = _ := hfilter _
    _ = (trackerRestart s).net.address := address_of_still (still_of_stillTimed (by simp))
    _ = s.net.address := rfl

/-- LINE RESTART taken: what the request's end shows, and where the alarm unit has nothing to report (R124, R137). -/
theorem exec_lineRestart {r : Requester} {e : Nat} {s : State} (h : Accepts r e s)
    (hclass : (s.tab.station.getD e {}).cls = .service) (hline : s.line.state = .idle ∨ s.line.state = .stopped) :
    ∃ (t : State) (heat : Heat), exec (.lineRestart r) s = .next t ∧
      unpublished t = restartImage heat (blocksRestarted (taken s)) ∧ heat.potMolten = false ∧
      (HeatInv s → ∀ i, i < 5 → heat.loops.getD i {} = loopAtRest (if i = 4 then s.L 23 else 0)) ∧
      t.net.address = s.net.address ∧ (s.net.upNormal.length < 15 → Unalarmed t) := by
  have hblocks : BlocksSettled (taken s) (settle (restartBlocks (taken s))) :=
    blocksSettled (s := taken s) (taken_events h) hline
  have haddress := address_restart (taken s)
  have hexec := exec_of_done (c := .lineRestart r) (d := .lineRestart) h rfl (by simp [largestResult])
    (directive_lineRestart_service h hclass (lineRestart_done hline))
  obtain ⟨hmolten, hloops⟩ := hblocks.loops hline
  obtain ⟨x, hx, himage, hpassing, hroom⟩ := hblocks.restartToIdle hline
  rw [hx] at haddress hexec
  have hs : Restarted x := hblocks.restarted_of_image hline himage
  refine ⟨_, _, hexec, (settle_answered_passing r [0] hs hpassing).trans himage, hmolten,
    fun hinv => hloops (heatInv_taken hinv), ?_, fun hfree => ?_⟩
  · exact (address_of_still (still_settle_answered r [0] x)).trans haddress
  · obtain ⟨halarm, hinert⟩ := hroom hfree
    exact settle_answered_unalarmed r [0] hs halarm hinert

/-- Settles O45: the refusals by the first check that fails, the restart field by field from its image. -/
theorem Settled.lineRestart : Obligations.LineRestart := by
  intro r e s h
  refine ⟨fun hclass => ?_, fun hclass hidle hstopped => ?_, fun hclass hline => ?_⟩
  · exact exec_of_read (c := .lineRestart r) (d := .lineRestart) (a := plain (.refused .access, taken s)) h rfl
      (by simp [largestResult]) (directive_lineRestart_operate h hclass) rfl
  · exact exec_of_read (c := .lineRestart r) (d := .lineRestart) (a := plain (.refused .state, taken s)) h rfl
      (by simp [largestResult]) (directive_lineRestart_service h hclass (lineRestart_refused hidle hstopped)) rfl
  · obtain ⟨t, heat, hexec, himage, hmolten, hloops, haddress, hquiet⟩ := exec_lineRestart h hclass hline
    refine ⟨t, hexec, ?_⟩
    have seen {α : Type} (f : State → α) : f (unpublished t) = f (restartImage heat (blocksRestarted (taken s))) :=
      congrArg f himage
    have htrk : t.trk = (trackerRestart (taken s)).trk := (seen State.trk :)
    have hheat : t.heat = heat := (seen State.heat :)
    have hhold : s.line.state = .stopped → t.pins.hold = false := fun hstopped =>
      (seen fun y => y.pins.hold).trans (if_pos hstopped)
    have hcold : HeatInv s → ∀ i, i < 5 → t.loopCtx i = loopAtRest (if i = 4 then s.L 23 else 0) := fun hinv i hi => by
      rw [State.loopCtx, hheat]
      exact hloops hinv i hi
    rw [htrk]
    refine ⟨(seen fun y => y.line.state :), (seen fun y => y.pins.permit :), rfl, rfl, rfl, rfl, rfl, rfl, rfl, rfl, rfl,
      rfl, rfl, rfl, rfl, rfl, rfl, rfl, rfl, rfl, rfl, rfl, rfl, rfl, (seen State.tab :), (seen State.ldr :), haddress,
      (seen fun y => y.line.clock :), (seen fun y => y.line.clockRunning :), (seen fun y => y.line.second :),
      (seen State.time :), (seen fun y => y.line.settle :), (seen fun y => y.line.changeover :),
      (seen fun y => y.line.holdRecipe :), (seen fun y => y.line.admitted :), (seen fun y => y.pins.spray :), hhold,
      (seen State.flux :), hcold, hheat ▸ hmolten, (seen State.pot :), (seen State.exh :), fun hfree => ?_,
      (seen State.filt :)⟩
    obtain ⟨halm, hholding, htrip⟩ := hquiet hfree
    rw [halm]
    exact ⟨rfl, rfl, rfl, hholding, htrip⟩

end Sys2Proof.Proofs
end

section
/-! SUPPORT. The entry actions of a loop's states and the evaluation of a target, each as one update of the loop (R45 to R54, R73). -/
namespace Sys2Proof.Proofs
open Sys2Proof Sys2Proof.Machine Sys2Proof.Safety

/-! The state and the target of a loop. -/

theorem derivedLoopState_eq_loopStateBy (i : Nat) (s : State) : s.derivedLoopState i = loopStateBy s i := by
  have hcalls : callsForHeat s.line.state i = true ↔ s.line.state = .warmup ∨ s.line.state = .ready ∨
      s.line.state = .drain ∨ (s.line.state = .stopped ∧ i = 4) := by
    cases s.line.state <;> simp [callsForHeat]
  simp only [State.derivedLoopState, loopStateBy, hcalls, Option.isSome_iff_ne_none]
  rfl

/-- A governing board has a recipe (R52). -/
theorem recipe_of_governing {i : Nat} {s : State} {r : BoardRecord} (h : s.governing i = some r) :
    ∃ row, r.recipe = some row := by
  have hg := List.find?_some h
  simp only [Bool.and_eq_true] at hg
  obtain ⟨⟨hrecipe, -⟩, -⟩ := hg
  exact Option.isSome_iff_exists.mp hrecipe

/-- An occupied zone's target is its governing board's or else the head announce's, whatever the loop (R52). -/
theorem targetFor_eq_targetBy (i : Nat) (s : State) : s.targetFor i = targetBy s i := by
  have hidle : s.governing i = none → s.trk.announces = [] → (s.idleExpired i = true ↔
      (s.loopCtx i).state = .active ∧ 0 < s.L 22 ∧ s.L 22 * 1000 ≤ (s.loopCtx i).idleTimer) := by
    intro hgov hann
    have hfree : s.zoneFree i = true := by simp [State.zoneFree, hgov, hann]
    simp [State.idleExpired, State.idleCounts, hfree, State.idleDelayMs]
  unfold State.targetFor targetBy
  dsimp only
  rw [← governing_eq_find]
  split
  · rfl
  · cases hgov : s.governing i with
    | some r =>
      obtain ⟨row, hrow⟩ := recipe_of_governing hgov
      simp [hrow]
    | none =>
      cases hann : s.trk.announces with
      | cons a as => rfl
      | nil =>
        simp only [Option.bind_none]
        exact if_congr (hidle hgov hann) rfl rfl

/-! A loop's context, the pot-molten flag, the mailbox and the loop interface written at once. -/

/-- The update every entry action comes to. -/
def heatPut (i : Nat) (c : LoopCtx) (molten : Bool) (es : List Event) (n : Net) (s : State) : State :=
  { s with heat := { loops := s.heat.loops.set i c, potMolten := molten }, events := es, net := n }

/-- A command of 0 reads and writes the loop interface and reads the tables and the marks, nothing else (R151, R153). -/
theorem net_commandZero {s t : State} (hnet : t.net = s.net) (htab : t.tab = s.tab) (hfilt : t.filt = s.filt) (f : OutFn) :
    (t.commandZero f).net = (s.commandZero f).net := by
  unfold State.commandZero
  rw [sendable_congr htab hfilt]
  split
  · unfold State.offerUrgentZero State.wakeDown
    dsimp only
    rw [hnet]
    split
    · rfl
    · apply net_arbitrateDown
      · rfl
      · exact htab
      · exact hfilt
  · exact hnet

section Put
variable {s : State} {i : Nat} (c : LoopCtx) (molten : Bool) (es : List Event) (n : Net)

@[simp] theorem loops_heatPut : (heatPut i c molten es n s).heat.loops = s.heat.loops.set i c := rfl

@[simp] theorem setLoop_heatPut (d : LoopCtx) : (heatPut i c molten es n s).setLoop i d = heatPut i d molten es n s := by
  simp [heatPut, State.setLoop]

@[simp] theorem heatPut_setLoop (d : LoopCtx) : heatPut i c molten es n (s.setLoop i d) = heatPut i c molten es n s := by
  simp [heatPut]

theorem loopCtx_heatPut (h : i < s.heat.loops.length) : (heatPut i c molten es n s).loopCtx i = c :=
  State.loopCtx_setLoop_self s i c h

theorem commandZero_setLoop (f : OutFn) : State.commandZero (s.setLoop i c) f =
    heatPut i c s.heat.potMolten s.events (s.commandZero f).net s := by
  have hnet : (State.commandZero (s.setLoop i c) f).net = (s.commandZero f).net :=
    net_commandZero (s := s) (t := s.setLoop i c) rfl rfl rfl f
  rw [State.commandZero_frame, hnet]
  rfl

theorem sendZero_setLoop (h : i < s.heat.loops.length) : sendZero i (s.setLoop i c) =
    heatPut i { c with duty := 0 } s.heat.potMolten s.events (s.commandZero (loopFn i)).net s := by
  rw [sendZero, State.loopCtx_setLoop_self s i c h, setLoop_setLoop, commandZero_setLoop]

/-- An urgent zero of a loop whose commanded duty is 0 is the command alone (R58). -/
theorem sendZero_of_duty (h : i < s.heat.loops.length) (hduty : (s.loopCtx i).duty = 0) :
    sendZero i s = s.commandZero (loopFn i) := by
  have hsame : { s.loopCtx i with duty := 0 } = s.loopCtx i := by rw [← hduty]
  rw [sendZero, hsame, setLoop_loopCtx h]

/-- No loop is in band but in ACTIVE (R55). -/
theorem evalInBand_heatPut (h : i < s.heat.loops.length) (hst : c.state ≠ .active) :
    evalInBand i (heatPut i c molten es n s) =
      heatPut i { c with inBand := false } molten (es ++ if c.inBand = true then [.inBandChanged i] else []) n s := by
  have hout : (heatPut i c molten es n s).inBandNow i = false := by
    simp [inBandNow_eq, loopCtx_heatPut c molten es n h, hst]
  rw [evalInBand_eq (by simpa using h), hout, loopCtx_heatPut c molten es n h, setLoop_heatPut]
  cases c.inBand <;> simp [heatPut]

theorem endHeatFail_heatPut (h : i < s.heat.loops.length) : endHeatFail i (heatPut i c molten es n s) =
    heatPut i { c with heatFailTimer := 0, heatFail := false } molten
      (es ++ if c.heatFail = true then [.clear .heatFail (i + 1)] else []) n s := by
  rw [endHeatFail, loopCtx_heatPut c molten es n h, setLoop_heatPut]
  cases c.heatFail <;> simp [heatPut, State.clearIf, State.clear, State.post]

theorem setMolten_false_heatPut : setMolten false (heatPut i c molten es n s) =
    heatPut i c false (es ++ if molten = true then [.potMoltenChanged] else []) n s := by
  cases molten <;> simp [heatPut, setMolten, State.post]

theorem setManual_none_heatPut (h : i < s.heat.loops.length) : setManual i none (heatPut i c molten es n s) =
    heatPut i { c with manual := none } molten
      (es ++ if c.manual ≠ none then
        [.heaterReport ((s.heat.loops.set i { c with manual := none }).any fun x => x.manual.isSome)] else []) n s := by
  rw [setManual, loopCtx_heatPut c molten es n h, setLoop_heatPut]
  cases hm : c.manual <;> simp [heatPut, State.post, State.anyManual]

end Put

/-! The entry actions (R46, R47, R58, R73). -/

section Entries
variable {s : State} {i : Nat}

theorem enterRest_eq_loopRests (h : i < s.heat.loops.length) {st : LoopState} (hst : st ≠ .active) :
    enterRest i st s = loopRests i st s := by
  unfold enterRest loopRests
  dsimp only
  rw [commandZero_setLoop, sendZero_setLoop _ h, evalInBand_heatPut _ _ _ _ h hst, endHeatFail_heatPut _ _ _ _ h]
  by_cases hpot : i = 4
  · subst hpot
    rw [if_pos rfl, setMolten_false_heatPut]
    by_cases hfault : st = .fault
    · rw [if_pos hfault, setManual_none_heatPut _ _ _ _ h]
      simp [heatPut, hfault]
    · simp [heatPut, hfault]
  · rw [if_neg hpot]
    by_cases hfault : st = .fault
    · rw [if_pos hfault, setManual_none_heatPut _ _ _ _ h]
      simp [heatPut, hfault, hpot]
    · simp [heatPut, hfault, hpot]

/-- Writing a target is one update of the loop, a change told to the line controller (R54). -/
theorem writeTarget_eq (h : i < s.heat.loops.length) (v : Nat) : writeTarget i v s =
    heatPut i { s.loopCtx i with target := v } s.heat.potMolten
      (s.events ++ if v = (s.loopCtx i).target then [] else [.targetChanged i]) s.net s := by
  unfold writeTarget
  split
  · next hsame =>
    rw [List.append_nil, hsame]
    exact (setLoop_loopCtx h).symm
  · rfl

/-- The target of loop 5, and of an occupied zone, is read outside the loops (R51, R52). -/
theorem targetFor_setLoop (hocc : i = 4 ∨ s.zoneFree i = false) (c : LoopCtx) :
    (s.setLoop i c).targetFor i = s.targetFor i := by
  have hgov : (s.setLoop i c).governing i = s.governing i := rfl
  unfold State.targetFor
  split
  · rfl
  · next hpot =>
    rw [hgov]
    cases hg : s.governing i with
    | some r =>
      obtain ⟨row, hrow⟩ := recipe_of_governing hg
      simp only [Option.bind_some, hrow]
      rfl
    | none =>
      cases hann : s.trk.announces with
      | cons a as =>
        simp only [Option.bind_none, State.setLoop_trk, hann]
        rfl
      | nil =>
        have hfree : s.zoneFree i = true := by simp [State.zoneFree, hg, hann]
        exact absurd hfree (by simp [hocc.resolve_left hpot])

/-- The target of a loop that enters ACTIVE (R54). -/
theorem entryTarget_eq (hi : i < 5) (c : LoopCtx) :
    (if i < 4 ∧ (s.setLoop i c).zoneFree i = true then (s.setLoop i c).entryTarget i else (s.setLoop i c).targetFor i) =
      if i < 4 ∧ zoneEmpty s i = true then (if s.rowDefined 0 = true then s.P 0 (6 + i) else s.L (18 + i))
      else targetBy s i := by
  have hempty : (s.setLoop i c).zoneFree i = zoneEmpty s i := zoneFree_eq_zoneEmpty s i
  rw [hempty, ← targetFor_eq_targetBy]
  split
  · rfl
  · next hno =>
    refine targetFor_setLoop ?_ c
    by_cases hpot : i = 4
    · exact .inl hpot
    · rw [zoneFree_eq_zoneEmpty]
      exact .inr (Bool.eq_false_of_not_eq_true fun hfree => hno ⟨by omega, hfree⟩)

theorem enterActive_eq_loopActivates (hi : i < 5) (h : i < s.heat.loops.length) :
    enterActive i (s.loopCtx i).state s = loopActivates i s := by
  unfold enterActive loopActivates
  dsimp only
  rw [entryTarget_eq hi, writeTarget_eq (by simpa using h), State.loopCtx_setLoop_self s i _ h]
  generalize (if i < 4 ∧ zoneEmpty s i = true then (if s.rowDefined 0 = true then s.P 0 (6 + i) else s.L (18 + i))
    else targetBy s i) = v
  rw [heatPut_setLoop, loopCtx_heatPut _ _ _ _ h, setLoop_heatPut]
  refine congrArg (testLoop i) ?_
  split
  · exact sendZero_of_duty (by simpa using h) (congrArg LoopCtx.duty (loopCtx_heatPut _ _ _ _ h))
  · rfl

theorem enterManual_eq_loopManual (h : i < s.heat.loops.length) : enterManual i s = loopManual i s := by
  unfold enterManual loopManual sendDuty
  dsimp only
  rw [State.loopCtx_setLoop_self s i _ h, setLoop_setLoop]

/-- The state of a loop derived afresh: nothing where it stands, else the entry actions (R45). -/
theorem deriveLoop_eq (hi : i < 5) (h : i < s.heat.loops.length) : deriveLoop i s =
    if (s.loopCtx i).state = loopStateBy s i then s
    else match loopStateBy s i with
      | .off => loopRests i .off s
      | .fault => loopRests i .fault s
      | .active => loopActivates i s
      | .manual => loopManual i s := by
  unfold deriveLoop
  dsimp only
  rw [derivedLoopState_eq_loopStateBy]
  refine if_congr eq_comm rfl ?_
  cases loopStateBy s i with
  | off => exact enterRest_eq_loopRests h (by decide)
  | fault => exact enterRest_eq_loopRests h (by decide)
  | active => exact enterActive_eq_loopActivates hi h
  | manual => exact enterManual_eq_loopManual h

/-- The evaluation of a target (R52 to R54). -/
theorem evalTarget_eq (h : i < s.heat.loops.length) : evalTarget i s =
    let c := s.loopCtx i
    let d := { c with idleTimer := if i < 4 ∧ zoneEmpty s i = false then 0 else c.idleTimer }
    let v := targetBy s i
    if v = c.target then s.setLoop i d
    else testLoop i ((s.setLoop i { d with target := v }).post (.targetChanged i)) := by
  have hset (d : LoopCtx) (htarget : (s.setLoop i d).targetFor i = targetBy s i) (hd : d.target = (s.loopCtx i).target) :
      setTarget i ((s.setLoop i d).targetFor i) (s.setLoop i d) =
        if targetBy s i = (s.loopCtx i).target then s.setLoop i d
        else testLoop i ((s.setLoop i { d with target := targetBy s i }).post (.targetChanged i)) := by
    rw [htarget, setTarget, writeTarget, State.loopCtx_setLoop_self s i d h, setLoop_setLoop, hd]
    split <;> rfl
  unfold evalTarget
  dsimp only
  rw [zoneFree_eq_zoneEmpty]
  split
  · next hocc =>
    refine hset _ ?_ rfl
    rw [targetFor_setLoop (.inr ((zoneFree_eq_zoneEmpty s i).trans hocc.2)), targetFor_eq_targetBy]
  · have hsame := setLoop_loopCtx h
    have hleft : setTarget i (s.targetFor i) s =
        setTarget i ((s.setLoop i (s.loopCtx i)).targetFor i) (s.setLoop i (s.loopCtx i)) := by rw [hsame]
    exact hleft.trans (hset (s.loopCtx i) (by rw [hsame, targetFor_eq_targetBy]) rfl)

end Entries

/-! The expiries (R53, R54, R57). -/

theorem idleArmed_iff (s : State) (z : Nat) : s.idleArmed z = true ↔
    (s.loopCtx z).state = .active ∧ zoneEmpty s z = true ∧ 0 < s.L 22 ∧ (s.loopCtx z).idleTimer < s.L 22 * 1000 := by
  have hdelay : 0 < s.idleDelayMs ↔ 0 < s.L 22 := Nat.mul_pos_iff_of_pos_right (by decide)
  simp only [State.idleArmed, Bool.and_eq_true, decide_eq_true_eq, idleCounts_iff, and_assoc, hdelay]
  rfl

/-- The expiry of the idle timer of an ACTIVE, empty zone brings the setback (R53, R54). -/
theorem idleExpire_eq {s : State} {z : Nat} (hz : z < 4) (hact : (s.loopCtx z).state = .active)
    (hempty : zoneEmpty s z = true) (hdelay : 0 < s.L 22) : idleExpire z s =
      if s.L (18 + z) = (s.loopCtx z).target then s.setLoop z { s.loopCtx z with idleTimer := s.L 22 * 1000 }
      else testLoop z ((s.setLoop z { s.loopCtx z with idleTimer := s.L 22 * 1000, target := s.L (18 + z) }).post
        (.targetChanged z)) := by
  have h := lt_length_of_active hact
  let u := s.setLoop z { s.loopCtx z with idleTimer := s.L 22 * 1000 }
  have hctx : u.loopCtx z = { s.loopCtx z with idleTimer := s.L 22 * 1000 } := State.loopCtx_setLoop_self s z _ h
  have hzone : zoneEmpty u z = true := hempty
  have hexpired : u.idleExpired z = true := by
    simp only [State.idleExpired, (idleCounts_iff u z).mpr ⟨by rw [hctx]; exact hact, hzone⟩, hctx, State.idleDelayMs]
    exact decide_eq_true ⟨Nat.mul_pos hdelay (by decide), Nat.le_refl _⟩
  have htarget : targetBy u z = s.L (18 + z) :=
    (targetFor_eq_targetBy z u).symm.trans (targetFor_of_idleExpired hz hexpired)
  show evalTarget z u = _
  rw [evalTarget_eq (by simpa [u] using h)]
  dsimp only
  rw [htarget, hctx, if_neg fun hocc : z < 4 ∧ zoneEmpty u z = false => Bool.false_ne_true (hocc.2.symm.trans hzone)]
  dsimp only [u]
  rw [setLoop_setLoop, setLoop_setLoop]

/-- Settles O12: the entry actions, the targets and the tests are each one update of the loop. -/
theorem Settled.heatTimers : Obligations.HeatTimers := by
  refine ⟨derivedLoopState_eq_loopStateBy, fun i s hi hfive => deriveLoop_eq hi (hfive.symm ▸ hi),
    fun i s hi hfive => evalTarget_eq (hfive.symm ▸ hi), fun _ => rfl,
    fun i s hi hfive => testLoop_eq_loopTested (hfive.symm ▸ hi), fun z s _ => ?_, fun n s T htemp => ?_,
    fun n s hnone => ?_⟩
  · show Host.Outcome.next (if s.idleArmed z.val = true then settle (idleExpire z.val s) else s) = _
    dsimp only
    simp only [idleArmed_iff]
    split
    · next harmed =>
      obtain ⟨hact, hempty, hdelay, -⟩ := harmed
      rw [idleExpire_eq z.isLt hact hempty hdelay]
    · rfl
  · have harmed : s.heatFailArmed n.val = true ↔ (s.loopCtx n.val).state = .active ∧
        (s.loopCtx n.val).duty = s.K n.val 2 ∧ T < ((s.loopCtx n.val).target : Int) - s.K n.val 4 ∧ 0 < s.L 26 ∧
          (s.loopCtx n.val).heatFail = false := by
      rw [State.heatFailArmed, heatFailCounts_eq_fallsShort, Bool.and_eq_true, fallsShort_iff htemp, Bool.not_eq_true']
      simp only [and_assoc]
    show Host.Outcome.next (if s.heatFailArmed n.val = true then settle (heatFailExpire n.val s) else s) = _
    dsimp only
    simp only [harmed]
    rw [heatFailExpire, htemp]
    rfl
  · have hidle : s.heatFailArmed n.val = false := by
      simp [State.heatFailArmed, State.heatFailCounts, hnone]
    show Host.Outcome.next (if s.heatFailArmed n.val = true then settle (heatFailExpire n.val s) else s) = _
    rw [hidle]
    rfl

end Sys2Proof.Proofs
end

section
/-! SUPPORT. What the heater loops' invariant reads (R45, R58, R59, R63), and what leaves it alone. -/
namespace Sys2Proof.Proofs
open Sys2Proof Sys2Proof.Machine Sys2Proof.Safety

/-! What the invariant reads. -/

/-- The part of a loop's context that its state, its duty and their bounds are about. -/
def loopDrive (c : LoopCtx) : LoopCtx :=
  { state := c.state, causes := c.causes, manual := c.manual, integrator := c.integrator, duty := c.duty }

/-- What the heater loops' invariant reads: K2 and K5, the line state, and each loop's drive. -/
def heatSeen (s : State) : (Nat → Nat) × (Nat → Nat) × LineState × List LoopCtx :=
  (fun i => s.K i 2, fun i => s.K i 5, s.line.state, s.heat.loops.map loopDrive)

theorem loopDrive_of_seen {s t : State} (h : heatSeen t = heatSeen s) (i : Nat) :
    loopDrive (t.loopCtx i) = loopDrive (s.loopCtx i) := by
  have hget (u : State) : loopDrive (u.loopCtx i) = (heatSeen u).2.2.2.getD i (loopDrive {}) :=
    (List.getD_map u.heat.loops ({} : LoopCtx) loopDrive).symm
  rw [hget, hget, h]

/-! Updates it does not see. -/

@[simp] theorem heatSeen_update (s : State) (time : Time) (trk : Tracker) (flux : Flux) (pot : Pot) (exh : Exhaust)
    (alm : Alarm) (net : Net) (filt : Filter) (ldr : Loader) (pins : Pins) (events : List Event) (pending : List Instr) :
    heatSeen { s with time, trk, flux, pot, exh, alm, net, filt, ldr, pins, events, pending } = heatSeen s := rfl
@[simp] theorem heatSeen_ite (c : Prop) [Decidable c] (s t : State) :
    heatSeen (if c then s else t) = if c then heatSeen s else heatSeen t := apply_ite _ _ _ _
@[simp] theorem heatSeen_post (s : State) (e : Event) : heatSeen (s.post e) = heatSeen s := rfl
@[simp] theorem heatSeen_raise (s : State) (k : AlarmKind) (n : Nat) (v : Option Int) :
    heatSeen (s.raise k n v) = heatSeen s := rfl
@[simp] theorem heatSeen_clear (s : State) (k : AlarmKind) (n : Nat) : heatSeen (s.clear k n) = heatSeen s := rfl
@[simp] theorem heatSeen_clearIf (s : State) (b : Bool) (k : AlarmKind) (n : Nat) :
    heatSeen (s.clearIf b k n) = heatSeen s := by
  cases b <;> rfl

theorem heatSeen_foldl {α : Type} {f : State → α → State} (h : ∀ s a, heatSeen (f s a) = heatSeen s) (l : List α)
    (s : State) : heatSeen (l.foldl f s) = heatSeen s := by
  induction l generalizing s with
  | nil => rfl
  | cons a l ih => exact (ih _).trans (h s a)

theorem heatSeen_forLoops {f : Nat → State → State} (h : ∀ i s, heatSeen (f i s) = heatSeen s) (s : State) :
    heatSeen (forLoops f s) = heatSeen s :=
  heatSeen_foldl (fun s i => h i s) _ s

@[simp] theorem heatSeen_wakeUp (s : State) : heatSeen s.wakeUp = heatSeen s := by rw [State.wakeUp_frame]; rfl
@[simp] theorem heatSeen_wakeDown (s : State) : heatSeen s.wakeDown = heatSeen s := by rw [State.wakeDown_frame]; rfl
@[simp] theorem heatSeen_offerUrgentZero (s : State) (f : OutFn) : heatSeen (s.offerUrgentZero f) = heatSeen s := by
  rw [State.offerUrgentZero_frame]; rfl
@[simp] theorem heatSeen_commandZero (s : State) (f : OutFn) : heatSeen (s.commandZero f) = heatSeen s := by
  rw [State.commandZero_frame]; rfl
@[simp] theorem heatSeen_commandValue (s : State) (f : OutFn) (v : Nat) : heatSeen (s.commandValue f v) = heatSeen s := by
  rw [State.commandValue_frame]; rfl
@[simp] theorem heatSeen_offerUpNormal (s : State) (t : Telegram) : heatSeen (s.offerUpNormal t) = heatSeen s := by
  rw [State.offerUpNormal_frame]; rfl
@[simp] theorem heatSeen_forward (s : State) (p : Port) (run : List Byte) : heatSeen (s.forward p run) = heatSeen s := by
  rw [State.forward_frame]; rfl

/-! The other blocks write none of it (Laws/Blocks). -/

section Except
variable {s t : State}

theorem heatSeen_of_exceptPot (h : exceptPot t = exceptPot s) : heatSeen t = heatSeen s := (congrArg heatSeen h :)
theorem heatSeen_of_exceptFlux (h : exceptFlux t = exceptFlux s) : heatSeen t = heatSeen s := (congrArg heatSeen h :)
theorem heatSeen_of_exceptExhaust (h : exceptExhaust t = exceptExhaust s) : heatSeen t = heatSeen s :=
  (congrArg heatSeen h :)
theorem heatSeen_of_exceptAlarm (h : exceptAlarm t = exceptAlarm s) : heatSeen t = heatSeen s := (congrArg heatSeen h :)
theorem heatSeen_of_exceptEdges (h : exceptEdges t = exceptEdges s) : heatSeen t = heatSeen s := (congrArg heatSeen h :)

end Except

theorem heatSeen_filterOnLine (old : LineState) (s : State) : heatSeen (filterOnLine old s) = heatSeen s := by
  unfold filterOnLine
  split
  · exact heatSeen_foldl heatSeen_offerUrgentZero _ _
  · rfl

theorem heatSeen_passTemp (i : Nat) (v : Int) (s : State) : heatSeen (passTemp i v s) = heatSeen s := by
  rw [passTemp_eq]
  rfl

/-- The deliveries of the quantities that are no loop's (R162, R163). -/
theorem heatSeen_potDelivery (r : Option Report) (v : Option Int) (s : State) : heatSeen (potDelivery r v s) = heatSeen s := by
  refine heatSeen_of_exceptPot ?_
  cases r <;> cases v <;> simp [potDelivery]
theorem heatSeen_flowDelivery (r : Option Report) (v : Option Int) (s : State) :
    heatSeen (flowDelivery r v s) = heatSeen s := by
  refine heatSeen_of_exceptExhaust ?_
  cases r <;> cases v <;> simp [flowDelivery]
theorem heatSeen_dpDelivery (r : Option Report) (v : Option Int) (s : State) : heatSeen (dpDelivery r v s) = heatSeen s := by
  refine heatSeen_of_exceptExhaust ?_
  cases r <;> cases v <;> simp [dpDelivery]
theorem heatSeen_pressureDelivery (r : Option Report) (v : Option Int) (s : State) :
    heatSeen (pressureDelivery r v s) = heatSeen s := by
  refine heatSeen_of_exceptFlux ?_
  cases r <;> cases v <;> simp [pressureDelivery]

/-! The heat controller's targets, tests and timers write none of it. -/

/-- A loop's context with its drive kept. -/
theorem heatSeen_setLoop {s : State} {i : Nat} {c : LoopCtx} (h : loopDrive c = loopDrive (s.loopCtx i)) :
    heatSeen (s.setLoop i c) = heatSeen s := by
  have hloops : (s.heat.loops.set i c).map loopDrive = s.heat.loops.map loopDrive := by
    by_cases hi : i < s.heat.loops.length
    · rw [loopCtx_eq_getElem s hi] at h
      rw [List.map_set, h, ← List.getElem_map loopDrive (h := by simpa using hi)]
      exact List.set_getElem_self _
    · rw [List.set_eq_of_length_le (Nat.not_lt.mp hi)]
  exact congrArg (fun l => (fun i => s.K i 2, fun i => s.K i 5, s.line.state, l)) hloops

@[simp] theorem heatSeen_setMolten (b : Bool) (s : State) : heatSeen (setMolten b s) = heatSeen s := by
  unfold setMolten
  split <;> rfl
@[simp] theorem heatSeen_evalInBand (i : Nat) (s : State) : heatSeen (evalInBand i s) = heatSeen s := by
  unfold evalInBand
  have hband : heatSeen (if s.inBandNow i = (s.loopCtx i).inBand then s
      else State.post (s.setLoop i { s.loopCtx i with inBand := s.inBandNow i }) (.inBandChanged i)) = heatSeen s := by
    split
    · rfl
    · exact (heatSeen_post _ _).trans (heatSeen_setLoop (by rfl))
  dsimp only
  split
  · exact (heatSeen_setMolten _ _).trans hband
  · exact hband
@[simp] theorem heatSeen_endHeatFail (i : Nat) (s : State) : heatSeen (endHeatFail i s) = heatSeen s :=
  (heatSeen_clearIf _ _ _ _).trans (heatSeen_setLoop rfl)
@[simp] theorem heatSeen_heatFailTest (i : Nat) (s : State) : heatSeen (heatFailTest i s) = heatSeen s := by
  simp [heatFailTest]
@[simp] theorem heatSeen_testLoop (i : Nat) (s : State) : heatSeen (testLoop i s) = heatSeen s := by
  simp [testLoop]
@[simp] theorem heatSeen_writeTarget (i v : Nat) (s : State) : heatSeen (writeTarget i v s) = heatSeen s := by
  unfold writeTarget
  split
  · rfl
  · exact (heatSeen_post _ _).trans (heatSeen_setLoop (by rfl))
@[simp] theorem heatSeen_evalTarget (i : Nat) (s : State) : heatSeen (evalTarget i s) = heatSeen s := by
  have hidle : heatSeen (s.setLoop i { s.loopCtx i with idleTimer := 0 }) = heatSeen s := heatSeen_setLoop rfl
  unfold evalTarget setTarget
  split <;> simp [hidle]
theorem heatSeen_evalTargets (s : State) : heatSeen (evalTargets s) = heatSeen s :=
  heatSeen_forLoops heatSeen_evalTarget s
theorem heatSeen_idleExpire (i : Nat) (s : State) : heatSeen (idleExpire i s) = heatSeen s :=
  (heatSeen_evalTarget _ _).trans (heatSeen_setLoop rfl)
theorem heatSeen_heatFailExpire (i : Nat) (s : State) : heatSeen (heatFailExpire i s) = heatSeen s :=
  (heatSeen_raise _ _ _ _).trans (heatSeen_setLoop (by rfl))

theorem heatSeen_countAll (s : State) : heatSeen (countAll s) = heatSeen s := by
  have hloops (u : State) : (u.heat.loops.mapIdx fun i c => countLoop u i c).map loopDrive = u.heat.loops.map loopDrive := by
    refine List.ext_getElem (by simp) fun n _ _ => ?_
    rw [List.getElem_map, List.getElem_map, List.getElem_mapIdx]
    rfl
  have hheat (u : State) : heatSeen (countHeat u) = heatSeen u :=
    congrArg (fun l => (fun i => u.K i 2, fun i => u.K i 5, u.line.state, l)) (hloops u)
  exact (hheat (countSpray (countTracker { s with time := s.time + 1 })) :)

/-! The tracker. -/

theorem heatSeen_measureSpeed (s : State) : heatSeen (measureSpeed s) = heatSeen s := by
  have hcheck (u : State) : heatSeen (speedCheck u) = heatSeen u := by
    unfold speedCheck
    split <;> rfl
  exact hcheck _

theorem heatSeen_encoderLevels (a b : Bool) (s : State) : heatSeen (encoderLevels a b s) = heatSeen s := by
  unfold encoderLevels
  dsimp only
  split
  · rfl
  · unfold forwardPulse
    split
    · exact (congrArg heatSeen (exceptEdges_positionAdvance a b s) :)
    · rfl
  · unfold reversePulse reverseTenth
    simp

theorem heatSeen_eyeLevel (blocked : Bool) (s : State) : heatSeen (eyeLevel blocked s) = heatSeen s := by
  have hconfirm (c : Candidate) : heatSeen (confirmEdge c s) = heatSeen s := by
    unfold confirmEdge
    dsimp only
    split
    · exact heatSeen_of_exceptEdges (exceptEdges_leadingEdge _ _)
    · exact heatSeen_of_exceptEdges (exceptEdges_trailingEdge _ _)
  unfold eyeLevel
  split
  · simp [hconfirm]
  · simp

theorem heatSeen_announceBoard (entry row : Nat) (id : List Byte) (s : State) :
    heatSeen (announceBoard entry row id s).2 = heatSeen s := by
  unfold announceBoard
  split <;> rfl

theorem heatSeen_withdrawAnnounces (s : State) : heatSeen (withdrawAnnounces s) = heatSeen s := by
  simp [withdrawAnnounces]

theorem heatSeen_purgeTrack (s : State) : heatSeen (purgeTrack s).2 = heatSeen s := by
  have hgone (l : List BoardRecord) : heatSeen (l.foldl (fun t r => purgeRecord r t) s) = heatSeen s := by
    rw [foldl_purgeRecord_frame]
    rfl
  have hconditions (u : State) : heatSeen (purgeConditions u) = heatSeen u := by
    unfold purgeConditions endStall
    dsimp only
    rw [heatSeen_clearIf]
    split <;> split <;> rfl
  unfold purgeTrack
  split
  · rfl
  · have hpurged (n : BitVec 16) :
        heatSeen (purgeConditions { s.trk.track.foldl (fun t r => purgeRecord r t) s with trk.purged := n }) = heatSeen s :=
      (hconditions _).trans (hgone _)
    dsimp only
    split <;> exact hpurged _

/-! The links and the filter. -/

theorem heatSeen_linkHeard (p : Port) (s : State) : heatSeen (linkHeard p s) = heatSeen s := by
  cases p <;> simp [linkHeard]

theorem heatSeen_linkLost (p : Port) (s : State) : heatSeen (linkLost p s) = heatSeen s := by
  cases p <;> rfl

theorem heatSeen_badTelegram (p : Port) (s : State) : heatSeen (badTelegram p s) = heatSeen s := by
  cases p <;> rfl

theorem heatSeen_boundary (p : Port) (s : State) : heatSeen (boundary p s) = heatSeen s := by
  cases p
  · exact heatSeen_wakeUp _
  · exact heatSeen_wakeDown _

theorem heatSeen_restartEntry (e : Nat) (s : State) : heatSeen (restartEntry e s) = heatSeen s := by
  rw [restartEntry_frame]
  rfl

theorem heatSeen_endNodeFault (f : OutFn) (s : State) : heatSeen (endNodeFault f s) = heatSeen s := by
  rw [endNodeFault_frame]
  rfl

theorem heatSeen_takePair (src : Nat) (s : State) (p : Nat × Int) : heatSeen (takePair src s p) = heatSeen s := by
  have hset (u : State) (e : Nat) (c : EntryCtx) : heatSeen (u.setEntry e c) = heatSeen u := rfl
  unfold takePair
  split
  · rfl
  · split
    · simp [takeFaultPair, hset]
    · simp [takeValidPair, hset]

theorem heatSeen_testNode (status : Nat) (s : State) (f : OutFn) : heatSeen (testNode status s f) = heatSeen s := by
  have hset (b : Bool) : heatSeen (s.setNodeFault f b) = heatSeen s := rfl
  simp [testNode, heatSeen_endNodeFault, hset]

theorem heatSeen_takeSample (src status : Nat) (pairs : List (Nat × Int)) (s : State) :
    heatSeen (takeSample src status pairs s) = heatSeen s :=
  (heatSeen_foldl (heatSeen_takePair src) _ _).trans (heatSeen_foldl (heatSeen_testNode status) _ _)

theorem heatSeen_takeOutput (t : Received) (pairs : List (Nat × Nat)) (s : State) :
    heatSeen (takeOutput t pairs s) = heatSeen s := by
  unfold takeOutput
  split
  · exact heatSeen_forward _ _ _
  · split
    · exact heatSeen_forward _ _ _
    · exact heatSeen_offerUpNormal _ _

/-! The line controller, where the line state stands. -/

theorem heatSeen_changeoverEval (s : State) : heatSeen (changeoverEval s) = heatSeen s := rfl
theorem heatSeen_deriveLamps (s : State) : heatSeen (deriveLamps s) = heatSeen s := rfl
theorem heatSeen_derivePermit (s : State) : heatSeen (derivePermit s) = heatSeen s := rfl
theorem heatSeen_deriveHold (s : State) : heatSeen (deriveHold s) = heatSeen s := rfl
theorem heatSeen_secondExpire (s : State) : heatSeen (secondExpire s) = heatSeen s := rfl

/-! The restarts of the other blocks (R137). -/

theorem heatSeen_trackerRestart (s : State) : heatSeen (trackerRestart s) = heatSeen s := rfl
theorem heatSeen_fluxRestart (s : State) : heatSeen (fluxRestart s) = heatSeen s := rfl
theorem heatSeen_potRestart (s : State) : heatSeen (potRestart s) = heatSeen s :=
  heatSeen_of_exceptPot (exceptPot_derivePump _)
theorem heatSeen_exhaustRestart (s : State) : heatSeen (exhaustRestart s) = heatSeen s :=
  heatSeen_of_exceptExhaust (exceptExhaust_exhaustRestart s)
theorem heatSeen_alarmRestart (s : State) : heatSeen (alarmRestart s) = heatSeen s := by
  unfold alarmRestart
  rw [heatSeen_foldl fun t r => heatSeen_of_exceptAlarm (exceptAlarm_removalReport t r)]
  rfl
theorem heatSeen_filterRestart (s : State) : heatSeen (filterRestart s) = heatSeen s := rfl
theorem heatSeen_lineRestartFields (s : State) : heatSeen (lineRestartFields s) = heatSeen s := rfl

/-! The directives that write none of it. -/

theorem heatSeen_readStatus (entry selector part : Nat) (s : State) :
    heatSeen (readStatus entry selector part s).2.2 = heatSeen s := by
  unfold readStatus
  split
  · rfl
  · split
    · rfl
    · split
      · rfl
      · split <;> rfl

theorem heatSeen_setCursor (entry table firstRow lastRow firstCol lastCol mode : Nat) (s : State) :
    heatSeen (setCursor entry table firstRow lastRow firstCol lastCol mode s).2 = heatSeen s := by
  unfold setCursor
  split <;> rfl

theorem heatSeen_readRun (entry count : Nat) (s : State) : heatSeen (readRun entry count s).2.2 = heatSeen s := by
  unfold readRun
  split
  · rfl
  · split <;> rfl

theorem heatSeen_setCursorOf (s : State) (e : Nat) (c : Option Cursor) : heatSeen (s.setCursorOf e c) = heatSeen s := rfl
theorem heatSeen_freshStarts (s : State) : heatSeen (freshStarts s) = heatSeen s := rfl

theorem heatSeen_acknowledgePair (kind source : Nat) (s : State) :
    heatSeen (acknowledgePair kind source s).2 = heatSeen s := by
  unfold acknowledgePair
  split
  · rfl
  · split
    · rfl
    · exact heatSeen_of_exceptAlarm (exceptAlarm_alarmAcknowledge s _ _)

theorem heatSeen_clockSet (d h m sec : Nat) (s : State) : heatSeen (clockSet d h m sec s).2 = heatSeen s := by
  unfold clockSet
  split <;> rfl

theorem heatSeen_setAddress (first : Bool) (a : Nat) (s : State) : heatSeen (setAddress first a s).2 = heatSeen s := by
  unfold setAddress
  split
  · rfl
  · split <;> rfl

/-- MANUAL OUTPUT for the pump, the feeder and the fan (R92, R98). -/
theorem heatSeen_manualDrive (f : OutFn) (v : Nat) {apply : State → State} (s : State)
    (h : heatSeen (apply s) = heatSeen s) : heatSeen (manualDrive f v apply s).2 = heatSeen s := by
  unfold manualDrive
  split
  · rfl
  · exact h

theorem heatSeen_manualPumpOutput (v : Nat) (s : State) : heatSeen (manualPumpOutput v s) = heatSeen s := by
  have hpump := heatSeen_of_exceptPot (exceptPot_derivePump { s with pot.manualPump := manualValue v })
  unfold manualPumpOutput
  dsimp only
  split <;> exact hpump

end Sys2Proof.Proofs
end

section
/-! SUPPORT. The heater loops' invariant (R45, R58, R59, R63) with the loops named whose state is yet to be derived, and what the
heat controller's operations do to it. -/
namespace Sys2Proof.Proofs
open Sys2Proof Sys2Proof.Machine Sys2Proof.Safety

/-! The invariant. -/

/-- A loop's context within the limits K2 sets: the duty, 0 at rest; a manual duty, only in SERVICE; the integrator (R58, R59, R63). -/
structure DriveSound (k2 : Nat) (st : LineState) (c : LoopCtx) : Prop where
  duty : c.duty ≤ k2
  rest : c.state = .off ∨ c.state = .fault → c.duty = 0
  manual : ∀ m, c.manual = some m → m ≤ k2 ∧ st = .service
  integrator : c.integrator ≤ k2 * 256

/-- The state of R45 read off the enable K5, the line state and the loop's context. -/
def stateBy (k5 : Nat) (st : LineState) (i : Nat) (c : LoopCtx) : LoopState :=
  if k5 = 0 then .off
  else if c.causes.any then .fault
  else if c.manual.isSome then .manual
  else if callsForHeat st i then .active
  else .off

/-- The five loops are sound, and stand in the derived state but for the stale ones. -/
structure HeatSound (stale : Nat → Prop) (s : State) : Prop where
  five : s.heat.loops.length = 5
  sound : ∀ i, i < 5 → DriveSound (s.K i 2) s.line.state (s.loopCtx i)
  derived : ∀ i, i < 5 → ¬ stale i → (s.loopCtx i).state = stateBy (s.K i 5) s.line.state i (s.loopCtx i)

theorem derivedLoopState_eq_stateBy (s : State) (i : Nat) :
    s.derivedLoopState i = stateBy (s.K i 5) s.line.state i (s.loopCtx i) := rfl

/-- A zone loop in IDLE or STOPPED is derived OFF or FAULT, for a manual duty stands only in SERVICE (R44, R45, R59). -/
theorem duty_cold {k2 k5 i : Nat} {st : LineState} {c : LoopCtx} (hs : DriveSound k2 st c) (hstate : c.state = stateBy k5 st i c)
    (hi : i < 4) (hst : st = .idle ∨ st = .stopped) : c.duty = 0 := by
  have hmanual : c.manual = none := by
    cases hm : c.manual with
    | none => rfl
    | some m => rcases hst with rfl | rfl <;> exact absurd (hs.manual m hm).2 (by decide)
  have hcalls : callsForHeat st i = false := by
    rcases hst with rfl | rfl
    · rfl
    · simp only [callsForHeat, beq_eq_false_iff_ne]
      omega
  refine hs.rest ?_
  rw [hstate, stateBy, hmanual, hcalls]
  split
  · exact .inl rfl
  · split
    · exact .inr rfl
    · exact .inl rfl

theorem heatInv_iff (s : State) : HeatInv s ↔ HeatSound (fun _ => False) s where
  mp h := by
    refine ⟨h.five, fun i hi => ?_, fun i hi _ => (h.each i hi).state⟩
    obtain ⟨-, hduty, hrest, -, hmanual, hinteg⟩ := h.each i hi
    exact ⟨hduty, hrest, hmanual, hinteg⟩
  mpr h := by
    refine ⟨h.five, fun i hi => ?_⟩
    have hstate := h.derived i hi not_false
    obtain ⟨hduty, hrest, hmanual, hinteg⟩ := h.sound i hi
    exact ⟨hstate, hduty, hrest, fun hz hst => duty_cold (h.sound i hi) hstate hz hst, hmanual, hinteg⟩

theorem HeatSound.mono {p q : Nat → Prop} {s : State} (hs : HeatSound p s)
    (hpq : ∀ i, i < 5 → p i → q i) : HeatSound q s :=
  ⟨hs.five, hs.sound, fun i hi hq => hs.derived i hi fun hp => hq (hpq i hi hp)⟩

theorem driveSound_congr {k2 : Nat} {st : LineState} {c d : LoopCtx} (h : loopDrive d = loopDrive c)
    (hc : DriveSound k2 st c) : DriveSound k2 st d := by
  obtain ⟨hstate, -, hmanual, hinteg, hduty⟩ : d.state = c.state ∧ d.causes = c.causes ∧ d.manual = c.manual ∧
      d.integrator = c.integrator ∧ d.duty = c.duty := by
    simpa [loopDrive] using h
  obtain ⟨h1, h2, h3, h4⟩ := hc
  exact ⟨hduty ▸ h1, by rw [hstate, hduty]; exact h2, by rw [hmanual]; exact h3, hinteg ▸ h4⟩

theorem stateBy_congr {k5 i : Nat} {st : LineState} {c d : LoopCtx} (h : loopDrive d = loopDrive c) :
    stateBy k5 st i d = stateBy k5 st i c := by
  obtain ⟨-, hcauses, hmanual, -⟩ : d.state = c.state ∧ d.causes = c.causes ∧ d.manual = c.manual ∧
      d.integrator = c.integrator ∧ d.duty = c.duty := by
    simpa [loopDrive] using h
  rw [stateBy, stateBy, hcauses, hmanual]

/-- What the invariant does not see keeps it. -/
theorem HeatSound.of_seen {p : Nat → Prop} {s t : State} (h : heatSeen t = heatSeen s) (hs : HeatSound p s) :
    HeatSound p t := by
  have hk2 (i : Nat) : t.K i 2 = s.K i 2 := congrFun (congrArg Prod.fst h) i
  have hk5 (i : Nat) : t.K i 5 = s.K i 5 := congrFun (congrArg (fun x => x.2.1) h) i
  have hst : t.line.state = s.line.state := congrArg (fun x => x.2.2.1) h
  have hlen : t.heat.loops.length = s.heat.loops.length := by
    have := congrArg (fun x => x.2.2.2.length) h
    simpa [heatSeen] using this
  have hdrive := loopDrive_of_seen h
  refine ⟨hlen.trans hs.five, fun i hi => ?_, fun i hi hp => ?_⟩
  · rw [hk2, hst]
    exact driveSound_congr (hdrive i) (hs.sound i hi)
  · rw [hk5, hst, stateBy_congr (hdrive i), ← hs.derived i hi hp]
    exact (congrArg LoopCtx.state (hdrive i) :)

/-! One loop written. -/

section Loop
variable {p : Nat → Prop} {s : State} {i : Nat}

theorem HeatSound.lt_length (hs : HeatSound p s) (hi : i < 5) : i < s.heat.loops.length := hs.five.symm ▸ hi

/-- One loop written with a sound context, among sound ones. -/
theorem heatSound_setLoop {q : Nat → Prop} (hfive : s.heat.loops.length = 5) {c : LoopCtx}
    (hc : i < 5 → DriveSound (s.K i 2) s.line.state c)
    (hstate : i < 5 → ¬ q i → c.state = stateBy (s.K i 5) s.line.state i c)
    (hothers : ∀ j, j < 5 → j ≠ i → DriveSound (s.K j 2) s.line.state (s.loopCtx j) ∧
      (¬ q j → (s.loopCtx j).state = stateBy (s.K j 5) s.line.state j (s.loopCtx j))) :
    HeatSound q (s.setLoop i c) := by
  refine ⟨(State.setLoop_length s i c).trans hfive, fun j hj => ?_, fun j hj hq => ?_⟩
  · by_cases hji : j = i
    · subst hji
      rw [State.loopCtx_setLoop_self s j c (hfive.symm ▸ hj)]
      exact hc hj
    · rw [State.loopCtx_setLoop_other s i j c (Ne.symm hji)]
      exact (hothers j hj hji).1
  · by_cases hji : j = i
    · subst hji
      rw [State.loopCtx_setLoop_self s j c (hfive.symm ▸ hj)]
      exact hstate hj hq
    · rw [State.loopCtx_setLoop_other s i j c (Ne.symm hji)]
      exact (hothers j hj hji).2 hq

/-- A sound context for one loop keeps the others; it makes the loop stale unless its state is the derived one. -/
theorem HeatSound.setLoop {q : Nat → Prop} (hs : HeatSound p s) {c : LoopCtx}
    (hc : i < 5 → DriveSound (s.K i 2) s.line.state c)
    (hstate : i < 5 → ¬ q i → c.state = stateBy (s.K i 5) s.line.state i c) (hpq : ∀ j, j ≠ i → p j → q j) :
    HeatSound q (s.setLoop i c) :=
  heatSound_setLoop hs.five hc hstate fun j hj hji => ⟨hs.sound j hj, fun hq => hs.derived j hj fun hp => hq (hpq j hji hp)⟩

end Loop

/-! The entry actions. -/

/-- A loop's context as it enters a state, as far as its drive goes (R46, R47, R58, R59). -/
def entered (st : LoopState) (c : LoopCtx) : LoopCtx :=
  match st with
  | .off => { c with state := .off, duty := 0 }
  | .fault => { c with state := .fault, duty := 0, manual := none }
  | .active => { c with state := .active, duty := 0, integrator := 0 }
  | .manual => { c with state := .manual, duty := c.manual.getD 0 }

section Entered
variable {s : State} {i : Nat}

/-- Two writes of one loop that agree on its drive. -/
theorem heatSeen_setLoop_congr {t : State} {c d : LoopCtx} (ht : heatSeen t = heatSeen (s.setLoop i d))
    (h : loopDrive d = loopDrive c) : heatSeen t = heatSeen (s.setLoop i c) := by
  refine ht.trans ?_
  have hloops : (s.heat.loops.set i d).map loopDrive = (s.heat.loops.set i c).map loopDrive := by
    rw [List.map_set, List.map_set, h]
  exact congrArg (fun l => (fun i => s.K i 2, fun i => s.K i 5, s.line.state, l)) hloops

theorem heatSeen_loopRests {st : LoopState} (hst : st = .off ∨ st = .fault) :
    heatSeen (loopRests i st s) = heatSeen (s.setLoop i (entered st (s.loopCtx i))) := by
  rcases hst with rfl | rfl
  · refine heatSeen_setLoop_congr (heatSeen_commandZero _ _) rfl
  · refine heatSeen_setLoop_congr (heatSeen_commandZero _ _) rfl

theorem heatSeen_loopActivates : heatSeen (loopActivates i s) = heatSeen (s.setLoop i (entered .active (s.loopCtx i))) := by
  unfold loopActivates
  dsimp only
  rw [heatSeen_testLoop]
  split
  · exact heatSeen_setLoop_congr (heatSeen_commandZero _ _) rfl
  · exact heatSeen_setLoop_congr rfl rfl

theorem heatSeen_loopManual : heatSeen (loopManual i s) = heatSeen (s.setLoop i (entered .manual (s.loopCtx i))) :=
  heatSeen_setLoop_congr ((heatSeen_testLoop _ _).trans (heatSeen_commandValue _ _ _)) rfl

/-- The derivation of a loop's state leaves it, or writes its drive as it enters the derived state (R45). -/
theorem heatSeen_deriveLoop (hi : i < 5) (h : i < s.heat.loops.length) :
    heatSeen (deriveLoop i s) = heatSeen
      (if (s.loopCtx i).state = s.derivedLoopState i then s else s.setLoop i (entered (s.derivedLoopState i) (s.loopCtx i))) := by
  rw [deriveLoop_eq hi h, derivedLoopState_eq_loopStateBy]
  split
  · rfl
  · cases loopStateBy s i with
    | off => exact heatSeen_loopRests (.inl rfl)
    | fault => exact heatSeen_loopRests (.inr rfl)
    | active => exact heatSeen_loopActivates
    | manual => exact heatSeen_loopManual

/-- Beyond the five loops nothing is written. -/
theorem heatSeen_setLoop_absent (h : s.heat.loops.length ≤ i) (c : LoopCtx) : heatSeen (s.setLoop i c) = heatSeen s := by
  rw [State.setLoop, List.set_eq_of_length_le h]

theorem heatSeen_deriveLoop_absent (h : s.heat.loops.length ≤ i) : heatSeen (deriveLoop i s) = heatSeen s := by
  have hctx : s.loopCtx i = {} := List.getD_eq_default _ _ h
  have hstate : s.derivedLoopState i = .off ∨ s.derivedLoopState i = .active := by
    simp only [State.derivedLoopState, hctx, Causes.any, Option.isSome_none]
    split
    · exact .inl rfl
    · cases callsForHeat s.line.state i
      · exact .inl rfl
      · exact .inr rfl
  unfold deriveLoop
  dsimp only
  rcases hstate with hoff | hactive
  · rw [hoff, hctx, if_pos rfl]
  · rw [hactive, hctx, if_neg (by decide)]
    dsimp only
    unfold enterActive
    dsimp only
    rw [if_neg (by decide), heatSeen_testLoop, heatSeen_setLoop_absent, heatSeen_writeTarget, heatSeen_setLoop_absent h]
    rw [length_of_lastTemps (lastTemps_writeTarget _ _ _), State.setLoop_length]
    exact h

end Entered

/-- Entering the derived state keeps a loop sound and in that state (R45 to R47). -/
theorem driveSound_entered {k2 k5 i : Nat} {st : LineState} {c : LoopCtx} (h : DriveSound k2 st c) :
    DriveSound k2 st (entered (stateBy k5 st i c) c) := by
  obtain ⟨-, -, hmanual, hinteg⟩ := h
  cases stateBy k5 st i c with
  | off => exact ⟨Nat.zero_le _, fun _ => rfl, hmanual, hinteg⟩
  | fault => exact ⟨Nat.zero_le _, fun _ => rfl, fun m hm => (nomatch hm), hinteg⟩
  | active => exact ⟨Nat.zero_le _, fun _ => rfl, hmanual, Nat.zero_le _⟩
  | manual =>
    refine ⟨?_, fun hrest => hrest.elim nofun nofun, hmanual, hinteg⟩
    show c.manual.getD 0 ≤ k2
    cases hm : c.manual with
    | none => exact Nat.zero_le _
    | some m => exact (hmanual m hm).1

theorem state_entered {k5 i : Nat} {st : LineState} {c : LoopCtx} :
    (entered (stateBy k5 st i c) c).state = stateBy k5 st i (entered (stateBy k5 st i c) c) := by
  cases hst : stateBy k5 st i c with
  | off => exact hst.symm
  | active => exact hst.symm
  | manual => exact hst.symm
  | fault =>
    unfold stateBy at hst ⊢
    split at hst
    · cases hst
    · next hk =>
      split at hst
      · next hany => rw [if_neg hk, if_pos (show (entered .fault c).causes.any = true from hany)]; rfl
      · split at hst
        · cases hst
        · split at hst <;> cases hst

/-- In MANUAL another manual duty leaves the derived state (R45). -/
theorem stateBy_manual {k5 i : Nat} {st : LineState} {c : LoopCtx} (h : stateBy k5 st i c = .manual) (m : Nat) :
    stateBy k5 st i { c with manual := some m } = .manual := by
  unfold stateBy at h ⊢
  split at h
  · cases h
  · next hk =>
    split at h
    · cases h
    · next hany => rw [if_neg hk, if_neg hany]; rfl

/-! The heat controller's operations. -/

section Operations
variable {p : Nat → Prop} {s : State} (i : Nat)

/-- The derivation of a loop's state makes it fresh (R45). -/
theorem HeatSound.deriveLoop (hs : HeatSound p s) : HeatSound (fun j => p j ∧ j ≠ i) (Machine.deriveLoop i s) := by
  by_cases hi : i < 5
  · refine .of_seen (heatSeen_deriveLoop hi (hs.lt_length hi)) ?_
    split
    · next hsame =>
      refine ⟨hs.five, hs.sound, fun j hj hfresh => ?_⟩
      by_cases hji : j = i
      · rw [hji]
        exact hsame
      · exact hs.derived j hj fun hp => hfresh ⟨hp, hji⟩
    · rw [derivedLoopState_eq_stateBy]
      exact hs.setLoop (fun _ => driveSound_entered (hs.sound i hi)) (fun _ _ => state_entered) fun j hji hp => ⟨hp, hji⟩
  · have habsent := heatSeen_deriveLoop_absent (s := s) (i := i) (hs.five.symm ▸ Nat.not_lt.mp hi)
    exact (HeatSound.of_seen habsent hs).mono fun j hj hp => ⟨hp, fun hji => hi (hji ▸ hj)⟩

theorem forLoops_eq (f : Nat → State → State) (s : State) : forLoops f s = f 4 (f 3 (f 2 (f 1 (f 0 s)))) := rfl

/-- With every loop derived none is stale (R45). -/
theorem HeatSound.deriveAll (hs : HeatSound p s) : HeatSound (fun _ => False) (forLoops Machine.deriveLoop s) := by
  rw [forLoops_eq]
  refine (((((hs.deriveLoop 0).deriveLoop 1).deriveLoop 2).deriveLoop 3).deriveLoop 4).mono fun j hj hp => ?_
  omega

/-- A manual duty within K2 in SERVICE, or none: the loop's state is to be derived (R59). -/
theorem HeatSound.setManual (hs : HeatSound p s) {m : Option Nat}
    (hm : ∀ v, m = some v → v ≤ s.K i 2 ∧ s.line.state = .service) :
    HeatSound (fun j => p j ∨ j = i) (Machine.setManual i m s) := by
  have hset : HeatSound (fun j => p j ∨ j = i) (s.setLoop i { s.loopCtx i with manual := m }) := by
    refine hs.setLoop (fun hi => ?_) (fun _ hfresh => absurd (.inr rfl) hfresh) fun j _ hp => .inl hp
    obtain ⟨hduty, hrest, -, hinteg⟩ := hs.sound i hi
    exact ⟨hduty, hrest, hm, hinteg⟩
  unfold Machine.setManual
  dsimp only
  split
  · exact hset
  · exact .of_seen (heatSeen_post _ _) hset

/-- A duty within K2 is sent to a loop that does not rest (R58). -/
theorem HeatSound.sendDuty (hs : HeatSound p s) {v : Nat} (hv : v ≤ s.K i 2)
    (hdrives : (s.loopCtx i).state = .active ∨ (s.loopCtx i).state = .manual) : HeatSound p (Machine.sendDuty i v s) := by
  refine .of_seen (heatSeen_commandValue _ _ _) (hs.setLoop (fun hi => ?_) (fun hi hfresh => ?_) fun j _ hp => hp)
  · obtain ⟨-, -, hmanual, hinteg⟩ := hs.sound i hi
    refine ⟨hv, fun hrest => ?_, hmanual, hinteg⟩
    rcases hdrives with hst | hst <;> rw [hst] at hrest <;> simp at hrest
  · exact hs.derived i hi hfresh

/-- The sensor causes and the overtemperature comparison leave the loop's state to be derived (R48, R49). -/
theorem HeatSound.causes (hs : HeatSound p s) (x : Causes) :
    HeatSound (fun j => p j ∨ j = i) (s.setLoop i { s.loopCtx i with causes := x }) := by
  refine hs.setLoop (fun hi => ?_) (fun _ hfresh => absurd (.inr rfl) hfresh) fun j _ hp => .inl hp
  obtain ⟨hduty, hrest, hmanual, hinteg⟩ := hs.sound i hi
  exact ⟨hduty, hrest, hmanual, hinteg⟩

theorem HeatSound.applyReport (hs : HeatSound p s) (r : Option Report) :
    HeatSound (fun j => p j ∨ j = i) (Machine.applyReport i r s) := by
  cases r with
  | none => exact hs.mono fun _ _ hp => .inl hp
  | some rep => exact hs.causes i _

theorem HeatSound.overtempTest (hs : HeatSound p s) (v : Int) :
    HeatSound (fun j => p j ∨ j = i) (Machine.overtempTest i v s) := by
  have hsame : HeatSound (fun j => p j ∨ j = i) s := hs.mono fun _ _ hp => .inl hp
  unfold Machine.overtempTest
  dsimp only
  split
  · split
    · exact hsame
    · exact .of_seen (heatSeen_raise _ _ _ _) (hs.causes i _)
  · split
    · exact .of_seen (heatSeen_clear _ _ _) (hs.causes i _)
    · exact hsame

/-- A computation keeps the duty and the integrator within their limits (R63, R71, R72). -/
theorem computed_bounds (k0 k1 k2 k3 : Nat) (now : Time) (v : Int) {c : LoopCtx} (h : c.integrator ≤ k2 * 256) :
    (computed k0 k1 k2 k3 now v c).duty ≤ k2 ∧ (computed k0 k1 k2 k3 now v c).integrator ≤ k2 * 256 := by
  have hout (u : Int) : (outputStage k2 u).1 ≤ k2 := by
    unfold outputStage
    dsimp only
    split
    · exact Nat.zero_le _
    · split
      · assumption
      · exact Nat.le_refl _
  have hinteg (dt : Nat) (e : Int) : integralStage k1 k2 dt e c.satHigh c.satLow c.integrator ≤ k2 * 256 := by
    unfold integralStage clampInt
    split
    · omega
    · exact h
  exact ⟨hout _, hinteg _ _⟩

/-- The command of an arrival: a computed duty in ACTIVE, the manual duty in MANUAL (R50). -/
theorem HeatSound.driveLoop (hs : HeatSound p s) (v : Int) : HeatSound p (Machine.driveLoop i v s) := by
  unfold Machine.driveLoop
  split
  · next hst =>
    have hi := lt_length_of_active hst
    rw [hs.five] at hi
    let c := computed (s.K i 0) (s.K i 1) (s.K i 2) (s.K i 3) s.time v (s.loopCtx i)
    obtain ⟨hduty, hinteg⟩ := computed_bounds (s.K i 0) (s.K i 1) (s.K i 2) (s.K i 3) s.time v (hs.sound i hi).integrator
    have hstate : c.state = .active := hst
    have hset : HeatSound p (s.setLoop i c) := by
      refine hs.setLoop (fun _ => ⟨hduty, fun hrest => ?_, (hs.sound i hi).manual, hinteg⟩)
        (fun _ hfresh => hs.derived i hi hfresh) fun j _ hp => hp
      rw [hstate] at hrest
      exact hrest.elim nofun nofun
    refine hset.sendDuty i hduty (.inl ?_)
    rw [State.loopCtx_setLoop_self s i c (hs.lt_length hi)]
    exact hstate
  · next hst =>
    refine hs.sendDuty i ?_ (.inr hst)
    have hi : i < 5 := hs.five ▸ lt_length_of_state (by rw [hst]; decide)
    cases hm : (s.loopCtx i).manual with
    | none => exact Nat.zero_le _
    | some m => exact ((hs.sound i hi).manual m hm).1
  · exact hs
  · exact hs

/-- A delivery of a loop's quantity derives its state from the causes it brings (R48, R50). -/
theorem HeatSound.heatDelivery (hs : HeatSound p s) (report : Option Report) (value : Option Int) :
    HeatSound p (Machine.heatDelivery i report value s) := by
  unfold Machine.heatDelivery
  split
  · next v =>
    have hlast : HeatSound p (s.setLoop i { s.loopCtx i with lastTemp := some v }) :=
      .of_seen (heatSeen_setLoop (by rfl)) hs
    have hpassed : HeatSound (fun j => p j ∨ j = i)
        (passTemp i v (Machine.applyReport i report (s.setLoop i { s.loopCtx i with lastTemp := some v }))) :=
      .of_seen (heatSeen_passTemp _ _ _) (hlast.applyReport i report)
    refine .of_seen (heatSeen_testLoop _ _) (HeatSound.driveLoop i ?_ v)
    refine ((hpassed.overtempTest i v).deriveLoop i).mono fun j hj hp => ?_
    tauto
  · refine ((hs.applyReport i report).deriveLoop i).mono fun j hj hp => ?_
    tauto

theorem HeatSound.overtempReleased (hs : HeatSound p s) : HeatSound p (Machine.overtempReleased i s) := by
  unfold Machine.overtempReleased
  dsimp only
  split
  · refine ((hs.causes i _).deriveLoop i).mono fun j hj hp => ?_
    tauto
  · exact hs

/-! Manual duties (R59). -/

theorem HeatSound.takeManual (hs : HeatSound p s) {m : Nat} (hm : m ≤ s.K i 2) (hservice : s.line.state = .service) :
    HeatSound p (Machine.takeManual i m s) := by
  have hduty (v : Nat) (hv : some m = some v) : v ≤ s.K i 2 ∧ s.line.state = .service := Option.some.inj hv ▸ ⟨hm, hservice⟩
  unfold Machine.takeManual
  split
  · next hst =>
    have hi := lt_length_of_state (s := s) (i := i) (by rw [hst]; decide)
    have hset : HeatSound p (s.setLoop i { s.loopCtx i with manual := some m }) := by
      refine hs.setLoop (fun hi => ?_) (fun hi hfresh => ?_) fun j _ hp => hp
      · obtain ⟨hlimit, hrest, -, hinteg⟩ := hs.sound i hi
        exact ⟨hlimit, hrest, hduty, hinteg⟩
      · exact hst.trans (stateBy_manual ((hs.derived i hi hfresh).symm.trans hst) m).symm
    have hstands : HeatSound p (Machine.setManual i (some m) s) := by
      unfold Machine.setManual
      dsimp only
      split
      · exact hset
      · exact .of_seen (heatSeen_post _ _) hset
    have hstate : ((Machine.setManual i (some m) s).loopCtx i).state = .manual := by
      unfold Machine.setManual
      dsimp only
      split <;> exact (congrArg LoopCtx.state (State.loopCtx_setLoop_self s i _ hi)).trans hst
    refine hstands.sendDuty i ?_ (.inr hstate)
    exact hm.trans_eq (K_congr (congrArg State.tab (exceptHeat_setManual s i (some m)) :) i 2).symm
  · refine ((hs.setManual i hduty).deriveLoop i).mono fun j hj hp => ?_
    tauto

theorem HeatSound.manualHeater (hs : HeatSound p s) (v : Nat) : HeatSound p (Machine.manualHeater i v s).2 := by
  unfold Machine.manualHeater
  split
  · exact hs
  · next hpass =>
    have hservice : s.line.state = .service := by
      by_contra hst
      simp [heaterRefusal, hst] at hpass
    split
    · refine ((hs.setManual i (m := none) fun v hv => nomatch hv).deriveLoop i).mono fun j hj hp => ?_
      tauto
    · exact hs.takeManual i (Nat.min_le_right _ _) hservice

end Operations

/-! Changes of the line state (R130). -/

section Line
variable {p : Nat → Prop} {s : State}

theorem five_of_length {α : Type} {l : List α} (h : l.length = 5) : ∃ a b c d e, l = [a, b, c, d, e] := by
  match l, h with
  | [a, b, c, d, e], _ => exact ⟨a, b, c, d, e, rfl⟩

/-- Leaving SERVICE ends every manual duty (R59). -/
theorem loops_clearManuals (h : s.heat.loops.length = 5) :
    (forLoops (fun i t => Machine.setManual i none t) s).heat.loops = s.heat.loops.map fun c => { c with manual := none } := by
  have hset (i : Nat) (t : State) :
      (Machine.setManual i none t).heat.loops = t.heat.loops.set i { t.loopCtx i with manual := none } := by
    unfold Machine.setManual
    dsimp only
    split <;> rfl
  obtain ⟨a, b, c, d, e, hl⟩ := five_of_length h
  rw [forLoops_eq]
  simp [hset, State.loopCtx, hl]

theorem exceptHeat_clearManuals (s : State) :
    exceptHeat (forLoops (fun i t => Machine.setManual i none t) s) = exceptHeat s :=
  forLoops_keeps (P := fun t => exceptHeat t = exceptHeat s) (fun i t h => (exceptHeat_setManual t i none).trans h) s rfl

/-- With no manual duty left the line's state may be any: what it has of the loops' soundness stands (R59). -/
theorem HeatSound.of_unmanned {t : State} (hs : HeatSound p s)
    (hloops : t.heat.loops = s.heat.loops.map fun c => { c with manual := none }) (hK : ∀ i, t.K i 2 = s.K i 2) :
    HeatSound (fun _ => True) t := by
  refine ⟨by rw [hloops, List.length_map]; exact hs.five, fun i hi => ?_, fun i _ hfresh => absurd trivial hfresh⟩
  have hctx : t.loopCtx i = { s.loopCtx i with manual := none } := by
    rw [State.loopCtx, hloops]
    exact List.getD_map s.heat.loops ({} : LoopCtx) fun c => { c with manual := none }
  obtain ⟨hduty, hrest, -, hinteg⟩ := hs.sound i hi
  rw [hctx, hK]
  exact ⟨hduty, hrest, fun m hm => (nomatch hm), hinteg⟩

/-- Outside SERVICE no loop has a manual duty (R59). -/
theorem HeatSound.loops_unmanned (hs : HeatSound p s) (hservice : s.line.state ≠ .service) :
    s.heat.loops = s.heat.loops.map fun c => { c with manual := none } := by
  have hnone (i : Nat) (hi : i < 5) : (s.loopCtx i).manual = none := by
    cases hm : (s.loopCtx i).manual with
    | none => rfl
    | some m => exact absurd ((hs.sound i hi).manual m hm).2 hservice
  refine (List.map_id' s.heat.loops).symm.trans (List.map_congr_left fun c hc => ?_)
  obtain ⟨i, hi, rfl⟩ := List.mem_iff_getElem.1 hc
  have hman := hnone i (by rw [← hs.five]; exact hi)
  rw [State.loopCtx, List.getD_eq_getElem _ _ hi] at hman
  rw [← hman]

/-- A change of the line state takes every loop to the state derived under it, its manual duty ended with SERVICE (R59, R130). -/
theorem HeatSound.heatOnLine (hs : HeatSound p s) (new : LineState) :
    HeatSound (fun _ => False) (Machine.heatOnLine s.line.state { s with line.state := new, line.settle := 0 }) := by
  have hsettled (u : State) (hu : exceptHeat u = exceptHeat { s with line.state := new, line.settle := 0 }) (i : Nat) :
      u.K i 2 = s.K i 2 :=
    K_congr (congrArg State.tab hu) i 2
  unfold Machine.heatOnLine
  refine HeatSound.deriveAll (p := fun _ => True) ?_
  split
  · exact hs.of_unmanned (loops_clearManuals hs.five) (hsettled _ (exceptHeat_clearManuals _))
  · next hservice => exact hs.of_unmanned (hs.loops_unmanned hservice) (hsettled _ rfl)

end Line

end Sys2Proof.Proofs
end

section
/-! SUPPORT. Every step keeps the heater loops' invariant: the internal events, the writes, the directives, the commands and the
millisecond of an empty queue (R45, R58, R59, R63). -/
namespace Sys2Proof.Proofs
open Sys2Proof Sys2Proof.Machine Sys2Proof.Safety

/-! The line controller. -/

section Line
variable {p : Nat → Prop} {s : State}

/-- A change of the line state leaves no loop stale (R130). -/
theorem HeatSound.changeLine (hs : HeatSound p s) (new : LineState) (cause : LineCause) :
    HeatSound (fun _ => False) (Machine.changeLine new cause s) := by
  refine .of_seen ?_ (hs.heatOnLine new)
  unfold Machine.changeLine blocksOnLine
  dsimp only
  rw [heatSeen_offerUpNormal, heatSeen_deriveLamps, heatSeen_deriveHold, heatSeen_derivePermit, heatSeen_filterOnLine,
    heatSeen_of_exceptExhaust (exceptExhaust_exhaustOnLine _ _),
    heatSeen_of_exceptPot (exceptPot_potOnLine _ _), heatSeen_of_exceptFlux (exceptFlux_recomputeEligible _)]

theorem HeatSound.of_fresh (hs : HeatSound (fun _ => False) s) : HeatSound p s := hs.mono fun _ _ hp => hp.elim

theorem HeatSound.settleTest (hs : HeatSound p s) : HeatSound p (Machine.settleTest s) := by
  unfold Machine.settleTest
  split
  · exact .of_seen (s := s) rfl hs
  · split
    · exact (hs.changeLine _ _).of_fresh
    · exact hs

theorem HeatSound.retestSettle (hs : HeatSound p s) : HeatSound p (Machine.retestSettle s) := by
  unfold Machine.retestSettle
  split
  · exact hs.settleTest
  · exact hs

/-- Entry into a line state leaves no loop stale (R128, R130). -/
theorem HeatSound.enterLine (hs : HeatSound p s) (new : LineState) (cause : LineCause) :
    HeatSound (fun _ => False) (Machine.enterLine new cause s) := by
  unfold Machine.enterLine
  dsimp only
  split
  · exact (hs.changeLine _ _).settleTest
  · exact hs.changeLine _ _

theorem HeatSound.takePublished (hs : HeatSound p s) (h : Option Severity) (w : Bool) :
    HeatSound p (Machine.takePublished h w s) := by
  have hu : HeatSound p (deriveLamps { s with line.holding := h, line.warn := w }) := .of_seen (s := s) rfl hs
  unfold Machine.takePublished actOnSeverity
  split
  · split
    · exact (hu.enterLine _ _).of_fresh
    · exact hu
  · split
    · exact (hu.enterLine _ _).of_fresh
    · exact hu.retestSettle
  · exact hu.retestSettle
  · exact hu.retestSettle
  · exact hu.retestSettle

theorem HeatSound.changeoverEval (hs : HeatSound p s) : HeatSound p (Machine.changeoverEval s) :=
  .of_seen (heatSeen_changeoverEval s) hs

theorem HeatSound.lineOnRecord (hs : HeatSound p s) (appended : Bool) : HeatSound p (Machine.lineOnRecord appended s) := by
  unfold Machine.lineOnRecord
  split <;> exact .of_seen (s := s) rfl hs

/-! Internal events. -/

theorem HeatSound.takeDelivery (hs : HeatSound p s) (q : Quantity) (r : Option Report) (v : Option Int) :
    HeatSound p (Machine.takeDelivery q r v s) := by
  cases q with
  | none => exact hs
  | zoneTemp1 => exact hs.heatDelivery 0 r v
  | zoneTemp2 => exact hs.heatDelivery 1 r v
  | zoneTemp3 => exact hs.heatDelivery 2 r v
  | zoneTemp4 => exact hs.heatDelivery 3 r v
  | potTemp => exact hs.heatDelivery 4 r v
  | potLevel => exact .of_seen (heatSeen_potDelivery r v s) hs
  | exhaustFlow => exact .of_seen (heatSeen_flowDelivery r v s) hs
  | filterDp => exact .of_seen (heatSeen_dpDelivery r v s) hs
  | fluxPressure => exact .of_seen (heatSeen_pressureDelivery r v s) hs

/-- Every internal event keeps the loops sound and makes none stale. -/
theorem HeatSound.handle (hs : HeatSound p s) (e : Event) : HeatSound p (Machine.handle e s) := by
  have htracked : HeatSound p (potOnTrack (evalTargets (fluxEvaluate s))) := by
    refine .of_seen (heatSeen_of_exceptPot (exceptPot_potOnTrack _)) (.of_seen (heatSeen_evalTargets _) ?_)
    exact .of_seen (heatSeen_of_exceptFlux (exceptFlux_fluxEvaluate s)) hs
  cases e with
  | raise k n v => exact .of_seen (heatSeen_of_exceptAlarm (exceptAlarm_alarmRaise s k n v)) hs
  | clear k n => exact .of_seen (heatSeen_of_exceptAlarm (exceptAlarm_alarmClear s k n)) hs
  | published h w => exact hs.takePublished h w
  | overtempRemoved i => exact hs.overtempReleased i
  | levelCriticalRecord made => exact .of_seen (heatSeen_of_exceptPot (exceptPot_takeCriticalRecord s made)) hs
  | feedJamRemoved => exact .of_seen (heatSeen_of_exceptPot (exceptPot_feedJamRelease s)) hs
  | feedJamDropped => exact hs
  | advance => exact htracked.changeoverEval
  | recordChange appended => exact htracked.lineOnRecord appended
  | announceChange => exact HeatSound.changeoverEval (.of_seen (heatSeen_evalTargets s) hs)
  | speedMeasured => exact .of_seen (heatSeen_of_exceptFlux (exceptFlux_fluxOnSpeed s)) hs
  | inBandChanged i =>
    show HeatSound p (onInBand i s)
    unfold onInBand
    split
    · exact hs.retestSettle.changeoverEval
    · exact hs.retestSettle
  | targetChanged i =>
    show HeatSound p (onTarget i s)
    unfold onTarget
    split
    · exact hs.changeoverEval
    · exact hs
  | potMoltenChanged =>
    exact HeatSound.retestSettle (.of_seen (heatSeen_of_exceptPot (exceptPot_derivePump s)) hs)
  | levelStored => exact hs.retestSettle
  | valveReport o => exact .of_seen (heatSeen_of_exceptExhaust (exceptExhaust_takeValveReport s o)) hs
  | heaterReport b => exact .of_seen (heatSeen_of_exceptExhaust (exceptExhaust_takeHeaterReport s b)) hs
  | pumpReport b => exact .of_seen (heatSeen_of_exceptExhaust (exceptExhaust_takePumpReport s b)) hs
  | feederReport b => exact .of_seen (heatSeen_of_exceptExhaust (exceptExhaust_takeFeederReport s b)) hs
  | delivery q r v => exact hs.takeDelivery q r v

theorem HeatSound.settle (hs : HeatSound p s) : HeatSound p (Machine.settle s) :=
  settle_keeps (P := HeatSound p) (fun s _ h => .of_seen (s := s) rfl h) (fun e _ h => h.handle e) hs

end Line

/-! Writes to the tables (R59, R64, R180). -/

section Writes
variable {p : Nat → Prop} {s : State}

/-- A cell of the loop table written. -/
def loopStored (row col v : Nat) (s : State) : State :=
  { s with tab.loop := s.tab.loop.set row ((s.tab.loop.getD row []).set col v) }

theorem K_loopStored {row col i n : Nat} (h : row ≠ i ∨ col ≠ n) (v : Nat) (s : State) :
    (loopStored row col v s).K i n = s.K i n := by
  show ((s.tab.loop.set row ((s.tab.loop.getD row []).set col v)).getD i []).getD n 0 = (s.tab.loop.getD i []).getD n 0
  by_cases hrow : row = i
  · subst hrow
    have hcol := h.resolve_left (not_not_intro rfl)
    by_cases hlen : row < s.tab.loop.length
    · have hget : (s.tab.loop.set row ((s.tab.loop.getD row []).set col v)).getD row [] =
          (s.tab.loop.getD row []).set col v := by
        simp [List.getD_eq_getElem?_getD, hlen]
      rw [hget]
      exact getD_set_ne hcol
    · rw [List.set_eq_of_length_le (Nat.not_lt.mp hlen)]
  · rw [getD_set_ne hrow]

/-- A write of K2 lowers the integrator, a manual duty and the duty to it (R59, R64). -/
theorem heatSound_maxDutyWritten (hs : HeatSound p s) (row v : Nat) :
    HeatSound p (maxDutyWritten row (loopStored row 2 v s)) := by
  let t := loopStored row 2 v s
  let k2 := t.K row 2
  let c := s.loopCtx row
  let low : LoopCtx := { c with integrator := min c.integrator (k2 * 256), manual := c.manual.map fun m => min m k2 }
  have hset {d : Nat} (hd : row < 5 → d ≤ k2) (hrest : row < 5 → c.state = .off ∨ c.state = .fault → d = 0) :
      HeatSound p (t.setLoop row { low with duty := d }) := by
    refine heatSound_setLoop (s := t) hs.five (fun hi => ⟨hd hi, hrest hi, fun m hm => ?_, Nat.min_le_right _ _⟩)
      (fun hi hfresh => ?_) fun j hj hji => ?_
    · obtain ⟨m0, hm0, rfl⟩ := Option.map_eq_some_iff.mp hm
      exact ⟨Nat.min_le_right _ _, ((hs.sound row hi).manual m0 hm0).2⟩
    · have hK : t.K row 5 = s.K row 5 := K_loopStored (.inr (by decide)) v s
      rw [hK]
      refine (hs.derived row hi hfresh).trans ?_
      simp only [stateBy, low, Option.isSome_map]
      rfl
    · have hother (n : Nat) : t.K j n = s.K j n := K_loopStored (.inl (Ne.symm hji)) v s
      rw [hother, hother]
      exact ⟨hs.sound j hj, hs.derived j hj⟩
  unfold maxDutyWritten
  dsimp only
  refine .of_seen (heatSeen_heatFailTest _ _) ?_
  split
  · next hlower =>
    obtain ⟨hdrives, -⟩ := hlower
    have hlen : row < t.heat.loops.length :=
      lt_length_of_state (s := s) (i := row) (by rcases hdrives with hst | hst <;> exact fun hoff => nomatch hst.symm.trans hoff)
    have hsent : sendDuty row k2 (t.setLoop row low) =
        State.commandValue (t.setLoop row { low with duty := k2 }) (loopFn row) k2 := by
      rw [sendDuty, State.loopCtx_setLoop_self t row low hlen, setLoop_setLoop]
    refine .of_seen ((congrArg heatSeen hsent).trans (heatSeen_commandValue _ _ _)) ?_
    refine hset (fun _ => Nat.le_refl _) fun _ hrest => ?_
    rcases hdrives with hst | hst <;> rcases hrest with hr | hr <;> exact nomatch hst.symm.trans hr
  · next hkept =>
    refine hset (d := c.duty) (fun hi => ?_) fun hi => (hs.sound row hi).rest
    by_contra hover
    refine hkept ⟨?_, Nat.lt_of_not_le hover⟩
    by_contra hrests
    have hzero : c.duty = 0 := (hs.sound row hi).rest (by
      cases hst : c.state with
      | off => exact .inl rfl
      | fault => exact .inr rfl
      | active => exact absurd (.inl hst) hrests
      | manual => exact absurd (.inr hst) hrests)
    exact hover (hzero ▸ Nat.zero_le _)

/-- A write of K5 derives the loop's state (R45, R59). -/
theorem heatSound_enableWritten (hs : HeatSound p s) (row v : Nat) :
    HeatSound p (enableWritten row (loopStored row 5 v s)) := by
  have hstored : HeatSound (fun j => p j ∨ j = row) (loopStored row 5 v s) := by
    refine ⟨hs.five, fun i hi => ?_, fun i hi hfresh => ?_⟩
    · rw [K_loopStored (.inr (by decide))]
      exact hs.sound i hi
    · rw [K_loopStored (.inl fun hrow => hfresh (.inr hrow.symm))]
      exact hs.derived i hi fun hp => hfresh (.inl hp)
  unfold enableWritten
  split
  · refine ((hstored.setManual row (m := none) fun v hv => nomatch hv).deriveLoop row).mono fun j hj hp => ?_
    tauto
  · refine (hstored.deriveLoop row).mono fun j hj hp => ?_
    tauto

theorem heatSound_writeLoop (hs : HeatSound p s) (row col v : Nat) : HeatSound p (writeLoop row col v s) := by
  have hwritten : HeatSound p (loopWrite row col (loopStored row col v s)) := by
    unfold loopWrite
    split
    · next hcol =>
      subst hcol
      exact heatSound_maxDutyWritten hs row v
    · next h2 =>
      have hseen (h5 : col ≠ 5) : heatSeen (loopStored row col v s) = heatSeen s := by
        refine Prod.ext (funext fun i => K_loopStored (.inr h2) v s) ?_
        exact congrArg (fun k => (k, s.line.state, s.heat.loops.map loopDrive))
          (funext fun i => K_loopStored (.inr h5) v s : (fun i => (loopStored row col v s).K i 5) = fun i => s.K i 5)
      split
      · next h4 => exact .of_seen ((heatSeen_testLoop _ _).trans (hseen (by omega))) hs
      · split
        · next hcol =>
          subst hcol
          exact heatSound_enableWritten hs row v
        · next h5 => exact .of_seen (hseen h5) hs
  unfold writeLoop
  dsimp only
  split
  · exact hwritten.changeoverEval
  · exact hwritten

/-- A write of any cell keeps the loops sound and makes none stale (R179, R180). -/
theorem heatSound_writeCell (hs : HeatSound p s) (table row col : Nat) (v : Int) :
    HeatSound p (writeCell table row col v s) := by
  unfold writeCell
  split
  · refine .of_seen (s := s) ?_ hs
    unfold writeRecipe
    dsimp only
    split <;> rfl
  · refine .of_seen ?_ hs
    unfold writeLine
    dsimp only
    rw [heatSeen_of_exceptExhaust (exceptExhaust_exhaustLineWrite _ _), heatSeen_changeoverEval,
      heatSeen_of_exceptPot (exceptPot_potLineWrite _), heatSeen_evalTargets]
    split <;> rfl
  · exact heatSound_writeLoop hs _ _ _
  · refine .of_seen ?_ hs
    unfold writeChannel
    split
    · exact heatSeen_restartEntry row s
    · rfl
  · refine .of_seen ?_ hs
    unfold writeOutput
    dsimp only
    split
    · exact heatSeen_endNodeFault _ _
    · rfl
  · exact .of_seen (s := s) rfl hs
  · exact .of_seen (s := s) rfl hs

theorem heatSound_writeValues (entry : Nat) (held : Bool) (ws : List Nat) (n : Nat) (clamped : Bool) (hs : HeatSound p s) :
    HeatSound p (writeValues entry held ws n clamped s).2.2 := by
  induction ws generalizing n clamped s with
  | nil => exact hs
  | cons w ws ih =>
    unfold writeValues
    split
    · exact hs
    · dsimp only
      split
      · exact hs
      · exact ih _ _ (.of_seen (heatSeen_setCursorOf _ _ _) (heatSound_writeCell hs _ _ _ _).settle)

theorem heatSound_writeRun (entry src : Nat) (more : Bool) (bytes : List Byte) (hs : HeatSound p s) :
    HeatSound p (writeRun entry src more bytes s).2.2 := by
  unfold writeRun
  split
  · exact hs
  · exact hs
  · split
    · exact hs
    · exact .of_seen (heatSeen_freshStarts _) (heatSound_writeValues _ _ _ _ _ hs)

end Writes

/-! The other directives. -/

section Directives
variable {s : State}

/-- LINE RESTART empties manual duties and integrators, the derived states to follow (R61). -/
theorem heatSound_heatRestart {p : Nat → Prop} (hs : HeatSound p s) : HeatSound (fun _ => True) (heatRestart s) := by
  refine ⟨(length_heatRestart s).trans hs.five, fun i hi => ?_, fun i _ hfresh => absurd trivial hfresh⟩
  rw [loopCtx_heatRestart (hs.lt_length hi)]
  obtain ⟨hduty, hrest, -, -⟩ := hs.sound i hi
  exact ⟨hduty, hrest, fun m hm => (nomatch hm), Nat.zero_le _⟩

theorem heatSound_lineRestart {p : Nat → Prop} (hs : HeatSound p s) : HeatSound p (lineRestart s).2 := by
  have hfluxed : HeatSound p (fluxRestart (trackerRestart s)) :=
    .of_seen ((heatSeen_fluxRestart _).trans (heatSeen_trackerRestart s)) hs
  have hrestarted : HeatSound (fun _ => True) (restartBlocks s) := by
    refine .of_seen ?_ (heatSound_heatRestart hfluxed)
    unfold restartBlocks
    rw [heatSeen_filterRestart, heatSeen_alarmRestart, heatSeen_exhaustRestart, heatSeen_potRestart]
  have hfields : HeatSound (fun _ => True) (lineRestartFields (settle (restartBlocks s))) :=
    .of_seen (heatSeen_lineRestartFields _) hrestarted.settle
  unfold lineRestart restartToIdle
  split
  · dsimp only
    split
    · refine HeatSound.of_fresh (.of_seen ?_ hfields.deriveAll)
      rw [heatSeen_deriveLamps, heatSeen_of_exceptExhaust (exceptExhaust_deriveDemand _)]
    · exact (hfields.enterLine _ _).of_fresh
  · exact hs

theorem heatInv_of_seen {s t : State} (h : heatSeen t = heatSeen s) (hs : HeatInv s) : HeatInv t :=
  (heatInv_iff t).mpr (((heatInv_iff s).mp hs).of_seen h)

theorem heatInv_settle (hs : HeatInv s) : HeatInv (settle s) :=
  (heatInv_iff _).mpr ((heatInv_iff s).mp hs).settle

theorem heatInv_acknowledgeAll (hs : HeatInv s) : HeatInv (acknowledgeAll s).2 := by
  have hall (l : List AlarmRecord) (u : State) (hu : HeatInv u) :
      HeatInv (l.foldl (fun t r => settle (alarmAcknowledge r.kind r.source t)) u) := by
    induction l generalizing u with
    | nil => exact hu
    | cons r l ih =>
      exact ih _ (heatInv_settle (heatInv_of_seen (heatSeen_of_exceptAlarm (exceptAlarm_alarmAcknowledge u _ _)) hu))
  unfold acknowledgeAll
  split
  · exact hs
  · exact heatInv_of_seen (heatSeen_of_exceptAlarm (exceptAlarm_acknowledgeListFull _)) (hall _ s hs)

theorem heatInv_acknowledge (form kind source : Nat) (hs : HeatInv s) : HeatInv (acknowledge form kind source s).2 := by
  unfold acknowledge
  split
  · exact heatInv_of_seen (heatSeen_acknowledgePair _ _ s) hs
  · exact heatInv_acknowledgeAll hs
  · exact hs

/-- SET STATE enters a line state or leaves all (R126). -/
theorem heatInv_setState (entry src operand : Nat) (hs : HeatInv s) : HeatInv (setState entry src operand s).2.2 := by
  have enters (new : LineState) : HeatInv (enterLine new .directive s) :=
    (heatInv_iff _).mpr (((heatInv_iff s).mp hs).enterLine new .directive)
  unfold setState
  split
  · unfold setIdle
    split
    · exact hs
    · split
      · exact hs
      · exact enters .idle
  · unfold setWarmup
    split
    · exact hs
    · split
      · exact hs
      · exact enters .warmup
    all_goals exact hs
  · unfold setDrain
    split
    · exact enters .drain
    all_goals exact hs
  · unfold setResume
    split
    · exact enters .warmup
    · exact hs
  · split
    · unfold setService
      split
      · exact hs
      · split
        · exact enters .service
        · exact hs
    · exact hs
  · exact hs

/-- MANUAL OUTPUT (R59, R92, R98, R136). -/
theorem heatInv_manualOutput (function v : Nat) (hs : HeatInv s) : HeatInv (manualOutput function v s).2 := by
  have heater (i : Nat) : HeatInv (manualHeater i v s).2 :=
    (heatInv_iff _).mpr (((heatInv_iff s).mp hs).manualHeater i v)
  unfold manualOutput
  split
  · exact heater 0
  · exact heater 1
  · exact heater 2
  · exact heater 3
  · exact heater 4
  · exact heatInv_of_seen (heatSeen_manualDrive _ _ s (heatSeen_manualPumpOutput v s)) hs
  · exact heatInv_of_seen (heatSeen_manualDrive _ _ s (heatSeen_of_exceptPot (exceptPot_deriveFeederCmd _))) hs
  · exact heatInv_of_seen (heatSeen_manualDrive _ _ s (heatSeen_of_exceptExhaust (exceptExhaust_deriveDemand _))) hs
  · exact hs

/-- Every directive keeps the loops' invariant. -/
theorem heatInv_directive (entry src : Nat) (first : Bool) (d : Directive) (hs : HeatInv s) :
    HeatInv (directive entry src first d s).state := by
  have hsound := (heatInv_iff s).mp hs
  cases d with
  | identify => exact hs
  | readStatus sel part => exact heatInv_of_seen (heatSeen_readStatus _ _ _ s) hs
  | setCursor t r0 r1 c0 c1 m => exact heatInv_of_seen (heatSeen_setCursor _ _ _ _ _ _ _ s) hs
  | writeRun more bytes => exact (heatInv_iff _).mpr (heatSound_writeRun _ _ _ _ hsound)
  | readRun n => exact heatInv_of_seen (heatSeen_readRun _ _ s) hs
  | readTrack i => exact heatInv_of_seen (congrArg heatSeen (state_readTrack _ s)) hs
  | announceBoard row id => exact heatInv_of_seen (heatSeen_announceBoard _ _ _ s) hs
  | withdrawAnnounces => exact heatInv_of_seen (heatSeen_withdrawAnnounces s) hs
  | purgeTrack => exact heatInv_of_seen (heatSeen_purgeTrack s) hs
  | readAlarms en k src' sev st skip => exact heatInv_of_seen (congrArg heatSeen (state_readAlarms _ s)) hs
  | acknowledge form k src' => exact heatInv_acknowledge _ _ _ hs
  | setState operand => exact heatInv_setState _ _ _ hs
  | manualOutput f v => exact serviceOnly_keeps _ _ hs (heatInv_manualOutput _ _ hs)
  | clockHold => exact heatInv_of_seen (s := s) rfl hs
  | clockSet d h m sec => exact heatInv_of_seen (heatSeen_clockSet _ _ _ _ s) hs
  | clockRun => exact heatInv_of_seen (s := s) rfl hs
  | lineRestart => exact serviceOnly_keeps _ _ hs ((heatInv_iff _).mpr (heatSound_lineRestart hsound))
  | setAddress a => exact serviceOnly_keeps _ _ hs (heatInv_of_seen (heatSeen_setAddress _ _ s) hs)

end Directives

/-! Requests and telegrams. -/

section Requests
variable {s : State}

theorem heatInv_runItems (entry src : Nat) (items : List Item) (first stopped : Bool) (acc : List (List Byte))
    (hs : HeatInv s) : HeatInv (runItems entry src items first stopped acc s).2 := by
  induction items generalizing first stopped acc s with
  | nil => exact hs
  | cons item rest ih =>
    unfold runItems
    split
    · exact ih _ _ _ hs
    · split
      · exact ih _ _ _ hs
      · exact ih _ _ _ hs
      · refine ih _ _ _ ?_
        unfold takeItem
        split
        · exact heatInv_settle (heatInv_directive _ _ _ _ hs)
        · exact hs

theorem heatInv_requestArrives (src : Nat) (seq : Byte) (items : List Item) (hs : HeatInv s) :
    HeatInv (requestArrives src seq items s) := by
  have hreserved : HeatInv { s with net.reserved := some s.net.upNormal.length } := heatInv_of_seen (s := s) rfl hs
  have hlist : HeatInv (runList src items { s with net.reserved := some s.net.upNormal.length }).2 := by
    unfold runList
    split
    · exact hreserved
    · exact heatInv_runItems _ _ _ _ _ _ hreserved
  have hfilled (dest : Nat) (payload : List Byte) (u : State) :
      heatSeen (fillReply dest payload { u with net.addressOpen := false }) = heatSeen u :=
    (heatSeen_wakeUp _).trans rfl
  unfold requestArrives
  split
  · exact heatInv_of_seen (hfilled _ _ _) hlist
  · exact heatInv_of_seen (heatSeen_raise _ _ _ _) hs

theorem heatInv_linkHeard (p : Port) (hs : HeatInv s) : HeatInv (settle (linkHeard p s)) :=
  heatInv_settle (heatInv_of_seen (heatSeen_linkHeard p s) hs)

theorem heatInv_receiveDirective (r : Requester) (d : Directive) (hs : HeatInv s) : HeatInv (receiveDirective r d s) := by
  unfold receiveDirective
  split
  · exact heatInv_of_seen (heatSeen_badTelegram _ s) hs
  · dsimp only
    split
    · exact heatInv_linkHeard _ hs
    · exact heatInv_requestArrives _ _ _ (heatInv_linkHeard _ hs)

theorem heatInv_dispose (p : Port) (t : Received) (hs : HeatInv s) : HeatInv (dispose p t s) := by
  have hforward : HeatInv (s.forward p t.raw) := heatInv_of_seen (heatSeen_forward _ _ _) hs
  unfold dispose
  split
  · exact hs
  · split
    · split
      · exact heatInv_requestArrives _ _ _ hs
      · exact hs
    · split
      · split
        · next status pairs _ =>
          have htaken : HeatInv (settle (takeSample t.source status pairs s)) :=
            heatInv_settle (heatInv_of_seen (heatSeen_takeSample _ _ _ s) hs)
          unfold takeBroadcast
          dsimp only
          split
          · exact htaken
          · exact heatInv_of_seen (heatSeen_forward _ _ _) htaken
        · exact hforward
      · split
        · split
          · exact heatInv_of_seen (heatSeen_takeOutput _ _ s) hs
          · exact hforward
        · exact hforward

theorem heatInv_receiveRun (p : Port) (run : List Byte) (hs : HeatInv s) : HeatInv (receiveRun p run s) := by
  unfold receiveRun
  split
  · exact heatInv_of_seen (heatSeen_badTelegram p s) hs
  · exact heatInv_dispose _ _ (heatInv_linkHeard p hs)

end Requests

/-! The step. -/

section Step
variable {s : State}

theorem heatInv_settleExpire (hs : HeatInv s) : HeatInv (settle (settleExpire s)) :=
  heatInv_settle ((heatInv_iff _).mpr (((heatInv_iff s).mp hs).enterLine _ _))

theorem heatInv_settle_of_seen {f : State → State} (h : ∀ u, heatSeen (f u) = heatSeen u) (hs : HeatInv s) :
    HeatInv (settle (f s)) :=
  heatInv_settle (heatInv_of_seen (h s) hs)

/-- An expiry that is due, or armed, is taken with its events (log entries 1, 2). -/
theorem heatInv_whenDue {f : State → State} (h : ∀ u, heatSeen (f u) = heatSeen u) (due : Bool) (hs : HeatInv s) :
    HeatInv (whenDue due f s) := by
  unfold whenDue
  split
  · exact heatInv_settle_of_seen h hs
  · exact hs

theorem heatInv_whenDueEach {f : Nat → State → State} (h : ∀ i u, heatSeen (f i u) = heatSeen u) (n : Nat)
    (due : State → Nat → Bool) (hs : HeatInv s) : HeatInv (whenDueEach n due f s) := by
  unfold whenDueEach
  induction List.range n generalizing s with
  | nil => exact hs
  | cons i is ih => exact ih (heatInv_whenDue (h i) _ hs)

theorem heatSeen_potRefresh (s : State) : heatSeen (potRefresh s) = heatSeen s := heatSeen_of_exceptPot (exceptPot_potRefresh s)
theorem heatSeen_feedExpire (s : State) : heatSeen (feedExpire s) = heatSeen s := heatSeen_of_exceptPot (exceptPot_feedExpire s)
theorem heatSeen_flowExpire (s : State) : heatSeen (flowExpire s) = heatSeen s :=
  heatSeen_of_exceptExhaust (exceptExhaust_flowExpire s)
theorem heatSeen_runOnExpire (s : State) : heatSeen (runOnExpire s) = heatSeen s :=
  heatSeen_of_exceptExhaust (exceptExhaust_runOnExpire s)
theorem heatSeen_exhaustRefresh (s : State) : heatSeen (exhaustRefresh s) = heatSeen s :=
  heatSeen_of_exceptExhaust (exceptExhaust_exhaustRefresh s)
theorem heatSeen_stallExpire (s : State) : heatSeen (stallExpire s) = heatSeen s := rfl
theorem heatSeen_ageExpire (e : Nat) (s : State) : heatSeen (ageExpire e s) = heatSeen s := rfl

theorem heatInv_expireFirst (hs : HeatInv s) : HeatInv (expireFirst s) := by
  unfold expireFirst
  refine heatInv_whenDue heatSeen_potRefresh _ ?_
  refine heatInv_whenDue heatSeen_feedExpire _ ?_
  refine heatInv_whenDueEach heatSeen_heatFailExpire _ _ ?_
  refine heatInv_whenDueEach heatSeen_idleExpire _ _ ?_
  refine heatInv_whenDue heatSeen_stallExpire _ ?_
  exact heatInv_whenDue heatSeen_measureSpeed _ hs

theorem heatInv_expireRest (hs : HeatInv s) : HeatInv (expireRest s) := by
  unfold expireRest
  refine heatInv_whenDueEach heatSeen_ageExpire _ _ ?_
  refine heatInv_whenDue (heatSeen_linkLost .down) _ ?_
  refine heatInv_whenDue (heatSeen_linkLost .up) _ ?_
  refine heatInv_whenDue heatSeen_secondExpire _ ?_
  have hsettled (due : Bool) {u : State} (hu : HeatInv u) : HeatInv (whenDue due settleExpire u) := by
    unfold whenDue
    split
    · exact heatInv_settleExpire hu
    · exact hu
  refine hsettled _ ?_
  refine heatInv_whenDue heatSeen_exhaustRefresh _ ?_
  refine heatInv_whenDue heatSeen_runOnExpire _ ?_
  exact heatInv_whenDue heatSeen_flowExpire _ hs

/-- One millisecond keeps the invariant: each expiry does, with the events it leads to. -/
theorem heatInv_tick (hs : HeatInv s) : HeatInv (tick s) :=
  heatInv_expireRest (heatInv_expireFirst (heatInv_of_seen (heatSeen_countAll s) hs))

/-- A device reset disables every loop (R61). -/
theorem heatInv_deviceReset (a b eye : Bool) (straps : BitVec 6) (s : State) : HeatInv (deviceReset a b eye straps s) :=
  heatInv_of_seen (s := State.reset) rfl ⟨rfl, fun _ hi => loopInv_reset hi⟩

/-- Every command keeps the invariant. -/
theorem heatInv_exec (c : Instr) {t : State} (hs : HeatInv s) (h : exec c s = .next t) : HeatInv t := by
  have request (r : Requester) (d : Directive) : HeatInv (settle (receiveDirective r d s)) :=
    heatInv_settle (heatInv_receiveDirective r d hs)
  have armed {f : State → State} (b : Bool) (hf : ∀ u, heatSeen (f u) = heatSeen u) :
      HeatInv (if b then settle (f s) else s) := heatInv_whenDue hf b hs
  cases c with
  | deviceReset a b eye straps => cases h; exact heatInv_deviceReset _ _ _ _ _
  | encoderTransition a b => cases h; exact heatInv_settle_of_seen (heatSeen_encoderLevels a b) hs
  | eyeChange blocked => cases h; exact heatInv_settle_of_seen (heatSeen_eyeLevel blocked) hs
  | speedMeasurement => cases h; exact heatInv_settle_of_seen heatSeen_measureSpeed hs
  | conveyorStall => cases h; exact armed _ heatSeen_stallExpire
  | idleTimerExpiry zone => cases h; exact armed _ (heatSeen_idleExpire _)
  | heatFail loop => cases h; exact armed _ (heatSeen_heatFailExpire _)
  | feedTimerExpiry => cases h; exact armed _ heatSeen_feedExpire
  | potRefreshTimerExpiry => cases h; exact heatInv_settle_of_seen heatSeen_potRefresh hs
  | flowLowTimerExpiry => cases h; exact armed _ heatSeen_flowExpire
  | runOnTimerExpiry => cases h; exact armed _ heatSeen_runOnExpire
  | exhaustRefreshTimerExpiry => cases h; exact heatInv_settle_of_seen heatSeen_exhaustRefresh hs
  | settleTimerExpiry =>
    cases h
    split
    · exact heatInv_settleExpire hs
    · exact hs
  | secondTimerExpiry => cases h; exact heatInv_settle_of_seen heatSeen_secondExpire hs
  | linkDown p => cases h; exact armed _ (heatSeen_linkLost p)
  | linkUp p => cases h; exact heatInv_linkHeard p hs
  | telegramReceived p run => cases h; exact heatInv_settle (heatInv_receiveRun p run hs)
  | ageTimerExpiry e => cases h; exact armed _ (heatSeen_ageExpire _)
  | telegramBoundary p => cases h; exact heatInv_settle_of_seen (heatSeen_boundary p) hs
  | idleFillReception p => cases h; exact heatInv_linkHeard p hs
  | _ => cases h; exact request _ _

end Step

/-- Settles O55: a command keeps the loops' invariant, and so does the millisecond of an empty queue. -/
theorem Settled.stepKeepsHeat : Obligations.StepKeepsHeat := by
  intro s t hs hstep
  unfold step at hstep
  split at hstep
  · rw [← Host.Outcome.next.inj hstep]
    exact heatInv_tick hs
  · next c rest _ =>
    have hs' : HeatInv { s with pending := rest } := heatInv_of_seen (s := s) rfl hs
    exact heatInv_exec c hs' hstep

end Sys2Proof.Proofs
end

section
/-! SUPPORT. MANUAL OUTPUT (R59, R92, R98, R136). -/
namespace Sys2Proof.Proofs
open Sys2Proof Sys2Proof.Machine Sys2Proof.Safety

section Manual
variable {r : Requester} {e : Nat} {s : State}

/-- The directive asks for the class before its owner hears of it (R136, R173). -/
theorem directive_manualOutput (h : Accepts r e s) (f : Byte) (v : BitVec 16) :
    directive e r.src.toNat true (.manualOutput f v) (taken s) =
      plain (if (s.tab.station.getD e {}).cls = .operate then (.refused .access, taken s)
        else Machine.manualOutput f.toNat v.toNat (taken s)) := by
  have hclass : (taken s).isService e r.src.toNat = ((s.tab.station.getD e {}).cls == .service) :=
    isService_entry (s := taken s) h.entry
  refine congrArg plain ?_
  rw [serviceOnly, hclass]
  cases (s.tab.station.getD e {}).cls <;> rfl

/-- MANUAL OUTPUT from an OPERATE station is refused (R136, R173). -/
theorem exec_manualOutput_operate (h : Accepts r e s) (f : Byte) (v : BitVec 16)
    (hclass : (s.tab.station.getD e {}).cls = .operate) :
    exec (.manualOutput r f v) s = .next (settle (answered r [8] (taken s))) := by
  have hanswer := directive_manualOutput h f v
  rw [if_pos hclass] at hanswer
  exact exec_of_read h rfl (by simp [largestResult]) hanswer rfl

/-- From a SERVICE station the owner of the function answers (R136). -/
theorem exec_manualOutput_service (h : Accepts r e s) (f : Byte) (v : BitVec 16)
    (hclass : (s.tab.station.getD e {}).cls ≠ .operate) {res : Result} {t : State}
    (howner : Machine.manualOutput f.toNat v.toNat (taken s) = (res, t)) :
    exec (.manualOutput r f v) s = .next (settle (answered r [resultByte res] (settle t))) := by
  have hanswer := directive_manualOutput h f v
  rw [if_neg hclass, howner] at hanswer
  exact exec_of_plain h rfl (by simp [largestResult]) hanswer

/-- The same for an owner that refuses. -/
theorem exec_manualOutput_refused (h : Accepts r e s) (f : Byte) (v : BitVec 16)
    (hclass : (s.tab.station.getD e {}).cls ≠ .operate) {why : Reason}
    (howner : Machine.manualOutput f.toNat v.toNat (taken s) = (.refused why, taken s)) :
    exec (.manualOutput r f v) s = .next (settle (answered r [resultByte (.refused why)] (taken s))) := by
  rw [exec_manualOutput_service h f v hclass howner, settle_quiet (taken_events h)]

/-- The heaters have the numbers 0 to 4 (R106). -/
theorem manualOutput_heater {i : Nat} (hi : i < 5) (v : Nat) (s : State) :
    Machine.manualOutput (BitVec.ofNat 8 i).toNat v s = manualHeater i v s := by
  interval_cases i <;> rfl

/-- A heater's checks and what follows them, in one chain (R59). -/
theorem manualHeater_eq (i v : Nat) (s : State) :
    manualHeater i v s =
      if s.line.state ≠ .service then (.refused .state, s)
      else if 1000 < v then (.refused .range, s)
      else if s.K i 5 ≠ 1 ∨ (s.loopCtx i).state = .fault ∨ s.marked (loopFn i) = true then (.refused .state, s)
      else if v = 0 then (.done, deriveLoop i (Machine.setManual i none s))
      else (if s.K i 2 < v then .clamped else .done, takeManual i (min v (s.K i 2)) s) := by
  unfold manualHeater heaterRefusal
  by_cases hline : s.line.state ≠ .service
  · simp [hline]
  by_cases hrange : 1000 < v
  · simp [hline, hrange]
  by_cases hused : s.K i 5 ≠ 1
  · simp [hline, hrange, hused]
  by_cases hfault : (s.loopCtx i).state = .fault
  · simp [hline, hrange, hused, hfault]
  by_cases hmark : s.marked (loopFn i) = true
  · simp [hline, hrange, hused, hfault, hmark]
  · simp [hline, hrange, hused, hfault, hmark]

/-- A heater's chain on the state its directive runs in, whose line, loops, tables and marks are those of the state before (R59). -/
theorem manualOutput_heater_taken {i : Nat} (hi : i < 5) (v : Nat) (s : State) :
    Machine.manualOutput (BitVec.ofNat 8 i).toNat v (taken s) =
      if s.line.state ≠ .service then (.refused .state, taken s)
      else if 1000 < v then (.refused .range, taken s)
      else if s.K i 5 ≠ 1 ∨ (s.loopCtx i).state = .fault ∨ s.marked (loopFn i) = true then (.refused .state, taken s)
      else if v = 0 then (.done, deriveLoop i (Machine.setManual i none (taken s)))
      else (if s.K i 2 < v then .clamped else .done, takeManual i (min v (s.K i 2)) (taken s)) :=
  (manualOutput_heater hi v (taken s)).trans (manualHeater_eq i v (taken s))

/-- A drive's checks in one chain (R92, R98). -/
theorem manualDrive_eq (f : OutFn) (v : Nat) (apply : State → State) (s : State) :
    manualDrive f v apply s =
      if s.line.state ≠ .service then (.refused .state, s)
      else if 1000 < v then (.refused .range, s)
      else if s.marked f = true then (.refused .state, s)
      else (.done, apply s) := by
  unfold manualDrive driveRefusal
  by_cases hline : s.line.state ≠ .service
  · simp [hline]
  by_cases hrange : 1000 < v
  · simp [hline, hrange]
  by_cases hmark : s.marked f = true
  · simp [hline, hrange, hmark]
  · simp [hline, hrange, hmark]

/-- What the pump, the feeder and the fan do with a value that passed the checks (R92, R98). -/
def driveTaken (f : Byte) (m : Option Nat) (s : State) : State :=
  if f = 5 then
    let u := derivePump { s with pot.manualPump := m }
    if m.isSome = s.pot.manualPump.isSome then u else u.post (.pumpReport m.isSome)
  else if f = 6 then deriveFeederCmd { s with pot.manualFeeder := m }
  else deriveDemand { s with exh.manualFan := m }

/-- The functions above the heaters: the pump, the feeder, the fan, and none (R106, R136). -/
theorem manualOutput_drive {f : Byte} (hf : 5 ≤ f.toNat) (v : Nat) (s : State) :
    Machine.manualOutput f.toNat v s =
      if 7 < f.toNat then (.refused .range, s)
      else if s.line.state ≠ .service then (.refused .state, s)
      else if 1000 < v then (.refused .range, s)
      else if s.filt.marks.getD f.toNat false = true then (.refused .state, s)
      else (.done, driveTaken f (manualValue v) s) := by
  have hcases : f = 5 ∨ f = 6 ∨ f = 7 ∨ 7 < f.toNat := by bv_omega
  rcases hcases with rfl | rfl | rfl | hnone
  · exact manualDrive_eq .wavePump v (manualPumpOutput v) s
  · exact manualDrive_eq .feeder v (manualFeederOutput v) s
  · exact manualDrive_eq .exhaustFan v (manualFanOutput v) s
  · rw [if_pos hnone]
    obtain ⟨n, hn⟩ : ∃ n, f.toNat = n + 8 := ⟨f.toNat - 8, by omega⟩
    rw [hn]
    rfl

end Manual

/-- Settles O44: the class first, then the owner's checks one by one, and the new value where they pass. -/
theorem Settled.manualOutput : Obligations.ManualOutput := by
  unfold Obligations.ManualOutput
  refine ⟨fun r e s i v h hi => ?_, fun r e s f v h hf => ?_⟩
  · by_cases hclass : (s.tab.station.getD e {}).cls = .operate
    · rw [if_pos hclass, exec_manualOutput_operate h _ v hclass]
    have howner := manualOutput_heater_taken hi v.toNat s
    rw [if_neg hclass]
    split
    · next hline => exact exec_manualOutput_refused (why := .state) h _ v hclass (howner.trans (if_pos hline))
    next hline =>
    rw [if_neg hline] at howner
    split
    · next hrange => exact exec_manualOutput_refused (why := .range) h _ v hclass (howner.trans (if_pos hrange))
    next hrange =>
    rw [if_neg hrange] at howner
    split
    · next hloop => exact exec_manualOutput_refused (why := .state) h _ v hclass (howner.trans (if_pos hloop))
    next hloop =>
    rw [if_neg hloop] at howner
    split
    · next hzero => exact exec_manualOutput_service (res := .done) h _ v hclass (howner.trans (if_pos hzero))
    next hzero =>
    rw [if_neg hzero] at howner
    have hbyte : resultByte (if s.K i 2 < v.toNat then .clamped else .done) =
        if min v.toNat (s.K i 2) < v.toNat then 1 else 0 := by
      by_cases hover : s.K i 2 < v.toNat
      · rw [if_pos hover, if_pos (by omega)]; rfl
      · rw [if_neg hover, if_neg (by omega)]; rfl
    rw [exec_manualOutput_service h _ v hclass howner, hbyte]
    rfl
  · by_cases hclass : (s.tab.station.getD e {}).cls = .operate
    · rw [if_pos hclass, exec_manualOutput_operate h f v hclass]
    have howner := manualOutput_drive hf v.toNat (taken s)
    rw [if_neg hclass]
    split
    · next hnone => exact exec_manualOutput_refused (why := .range) h f v hclass (howner.trans (if_pos hnone))
    next hnone =>
    replace howner := howner.trans (if_neg hnone)
    split
    · next hline => exact exec_manualOutput_refused (why := .state) h f v hclass (howner.trans (if_pos hline))
    next hline =>
    replace howner := howner.trans (if_neg hline)
    split
    · next hrange => exact exec_manualOutput_refused (why := .range) h f v hclass (howner.trans (if_pos hrange))
    next hrange =>
    replace howner := howner.trans (if_neg hrange)
    split
    · next hmark => exact exec_manualOutput_refused (why := .state) h f v hclass (howner.trans (if_pos hmark))
    next hmark => exact exec_manualOutput_service (res := .done) h f v hclass (howner.trans (if_neg hmark))

end Sys2Proof.Proofs
end

section
/-! SUPPORT. A loop whose state is derived again (R45), whatever stands in the others. -/
namespace Sys2Proof.Proofs
open Sys2Proof Sys2Proof.Machine Sys2Proof.Safety

section Derived
variable {s t : State} {i j : Nat}

/-- The state a loop is derived in depends on nothing that `heatSeen` does not read (R45). -/
theorem loopStateBy_of_seen (h : heatSeen t = heatSeen s) (j : Nat) : loopStateBy t j = loopStateBy s j := by
  have hk5 : t.K j 5 = s.K j 5 := congrArg (fun x => x.2.1 j) h
  have hst : t.line.state = s.line.state := congrArg (fun x => x.2.2.1) h
  rw [← derivedLoopState_eq_loopStateBy, ← derivedLoopState_eq_loopStateBy, derivedLoopState_eq_stateBy,
    derivedLoopState_eq_stateBy, hk5, hst, stateBy_congr (loopDrive_of_seen h j)]

/-- Deriving a loop leaves it in its derived state (R45, R46, R47). -/
theorem state_deriveLoop (hi : i < 5) (h : i < s.heat.loops.length) :
    ((deriveLoop i s).loopCtx i).state = loopStateBy (deriveLoop i s) i := by
  have hseen := heatSeen_deriveLoop hi h
  rw [loopStateBy_of_seen hseen]
  refine (congrArg LoopCtx.state (loopDrive_of_seen hseen i)).trans ?_
  show (_ : LoopCtx).state = _
  rw [← derivedLoopState_eq_loopStateBy]
  split
  · next hsame => exact hsame
  · rw [derivedLoopState_eq_stateBy, derivedLoopState_eq_stateBy, State.loopCtx_setLoop_self _ _ _ h]
    exact state_entered

/-- Deriving a loop keeps its causes (R48, R49). -/
theorem causes_deriveLoop (hi : i < 5) (h : i < s.heat.loops.length) :
    ((deriveLoop i s).loopCtx i).causes = (s.loopCtx i).causes := by
  refine (congrArg LoopCtx.causes (loopDrive_of_seen (heatSeen_deriveLoop hi h) i)).trans ?_
  show (_ : LoopCtx).causes = _
  split
  · rfl
  · rw [State.loopCtx_setLoop_self _ _ _ h]
    cases s.derivedLoopState i <;> rfl

/-- Deriving a loop gives no other loop a manual duty, nor a new one to itself (R59). -/
theorem manual_deriveLoop (hi : i < 5) (h : i < s.heat.loops.length) (j : Nat) (hj : (s.loopCtx j).manual = none) :
    ((deriveLoop i s).loopCtx j).manual = none := by
  refine (congrArg LoopCtx.manual (loopDrive_of_seen (heatSeen_deriveLoop hi h) j)).trans ?_
  show (_ : LoopCtx).manual = _
  split
  · exact hj
  · by_cases hij : i = j
    · subst hij
      rw [State.loopCtx_setLoop_self _ _ _ h]
      cases s.derivedLoopState i with
      | fault => rfl
      | off | active | manual => exact hj
    · rw [State.loopCtx_setLoop_other _ _ _ _ hij]
      exact hj

/-- Deriving a loop leaves the drive of every other. -/
theorem loopDrive_deriveLoop_other (hi : i < 5) (h : i < s.heat.loops.length) (hij : i ≠ j) :
    loopDrive ((deriveLoop i s).loopCtx j) = loopDrive (s.loopCtx j) := by
  rw [loopDrive_of_seen (heatSeen_deriveLoop hi h) j]
  split
  · rfl
  · rw [State.loopCtx_setLoop_other _ _ _ _ hij]

end Derived

end Sys2Proof.Proofs
end

section
/-! SUPPORT. The alarm unit's operations as R109 to R118 state them, and what its owners do with its reports (R113). -/
namespace Sys2Proof.Proofs
open Sys2Proof Sys2Proof.Machine Sys2Proof.Safety

/-! Holding severity and notices. -/

/-- The higher of a severity and the highest of others is the highest of all, in the order STOP, DRAIN, WARN, NOTE (R115). -/
theorem find_severity_or (sv : Severity) (p : Severity → Bool) :
    ([.stop, .drain, .warn, .note].find? fun x => sv == x || p x) =
      some (match [Severity.stop, .drain, .warn, .note].find? p with
        | none => sv
        | some w => maxSeverity sv w) := by
  simp only [List.find?_cons, List.find?_nil]
  generalize p .stop = stop
  generalize p .drain = drain
  generalize p .warn = warn
  generalize p .note = note
  revert stop drain warn note
  cases sv <;> decide

theorem highestSeverity_eq_find (l : List AlarmRecord) :
    highestSeverity l = [Severity.stop, .drain, .warn, .note].find? fun sv => l.any fun r => r.severity == sv := by
  induction l with
  | nil => rfl
  | cons r rest ih =>
    simp only [List.any_cons]
    rw [find_severity_or, ← ih, highestSeverity]
    cases highestSeverity rest <;> rfl

/-- The evaluation at the end of a raise, a clear or an acknowledgement (R115, R116, R118). -/
theorem evaluateHolding_eq_heldAfter (s : State) : evaluateHolding s = heldAfter s := by
  have hholding : s.alm.holdingNow = [Severity.stop, .drain, .warn, .note].find? fun sv =>
      s.alm.holders.any fun r => r.severity == sv := highestSeverity_eq_find _
  have hpost (c : Prop) [Decidable c] (u : State) (e : Event) :
      (if c then u else u.post e) = { u with events := if c then u.events else u.events ++ [e] } := by
    split <;> rfl
  unfold evaluateHolding
  rw [hholding]
  exact hpost _ _ _

theorem offerAlarmNotice_eq_noticeOffered (code : Nat) (r : AlarmRecord) (s : State) :
    offerAlarmNotice r (notice code (alarmShortImage r)) s = noticeOffered (BitVec.ofNat 8 code) r s := by
  have hnotice : notice code (alarmShortImage r) =
      { dest := 63, kind := 5, payload := BitVec.ofNat 8 code :: alarmShortImage r } := by
    simp [notice, be, broadcast, kindNotice]
  rw [hnotice]
  unfold offerAlarmNotice noticeOffered
  cases r.severity <;> rfl

/-- The cases in which an update of a record is announced (R117). -/
theorem noticeIfCalled_eq_raiseNoticed (old new : AlarmRecord) (s : State) :
    (if callsForNotice old new = true then offerAlarmNotice new (noticeRaised new) s else s) = raiseNoticed old new s := by
  have hcalls : callsForNotice old new = true ↔ (old.state ≠ .active ∧ new.state = .active) ∨
      (old.masked = true ∧ new.masked = false) ∨ severityNum old.severity < severityNum new.severity := by
    simp [callsForNotice, or_assoc]
  unfold raiseNoticed
  simp only [hcalls]
  rw [noticeRaised, offerAlarmNotice_eq_noticeOffered]
  rfl

/-! The list. -/

theorem isFor_iff {r : AlarmRecord} {k : AlarmKind} {src : Nat} : r.isFor k src = true ↔ r.kind = k ∧ r.source = src := by
  simp [AlarmRecord.isFor]

theorem replaceRecord_eq_recordPut (r : AlarmRecord) (s : State) : replaceRecord r s = recordPut r s := by
  simp only [replaceRecord, recordPut, isFor_iff, Prod.mk.injEq]

theorem testListFull_eq (s : State) : testListFull s =
    if 20 < s.alm.records.length then s
    else match s.alm.listFull with
      | none => s
      | some f => match f.state with
        | .active => noticeOffered 2 { f with state := .cleared } { s with alm.listFull := some { f with state := .cleared } }
        | .acked => { s with alm.listFull := none }
        | .cleared => s := by
  unfold testListFull
  simp only [noticeCleared, offerAlarmNotice_eq_noticeOffered]
  rfl

theorem removeRecord_eq_recordGone (r : AlarmRecord) (s : State) : removeRecord r s = recordGone r s := by
  have hkeeps : (fun x : AlarmRecord => !x.isFor r.kind r.source) = fun x => decide ((x.kind, x.source) ≠ (r.kind, r.source)) := by
    funext x
    rw [Bool.eq_iff_iff, Bool.not_eq_true', ← Bool.not_eq_true, isFor_iff, decide_eq_true_iff, ne_eq, Prod.mk.injEq]
  rw [removeRecord, hkeeps, testListFull_eq]
  rfl

theorem removalReport_eq_ownerTold (r : AlarmRecord) (s : State) : removalReport r s = ownerTold r s := by
  unfold removalReport ownerTold
  have hnone : s = { s with events := s.events ++ [] } := by rw [List.append_nil]
  cases r.kind with
  | overtemp | levelCritical | feedJam => rfl
  | _ => exact hnone

/-! The record of a pair afterwards. -/

section Pair
variable {s t : State} {k : AlarmKind} {src : Nat} {r r' : AlarmRecord}

theorem alarmFor_eq_find (hk : k ≠ .listFull) (s : State) :
    s.alarmFor k src = s.alm.records.find? fun x => x.isFor k src := if_neg hk

theorem alarmFor_congr (hk : k ≠ .listFull) (h : t.alm.records = s.alm.records) : t.alarmFor k src = s.alarmFor k src := by
  rw [alarmFor_eq_find hk, alarmFor_eq_find hk, h]

/-- The record found for a pair is of that pair. -/
theorem pair_of_alarmFor (hk : k ≠ .listFull) (h : s.alarmFor k src = some r) : r.kind = k ∧ r.source = src := by
  rw [alarmFor_eq_find hk] at h
  exact isFor_iff.1 (List.find?_some (p := fun x : AlarmRecord => x.isFor k src) h)

theorem records_heldAfter (s : State) : (heldAfter s).alm.records = s.alm.records := rfl

theorem records_ownerTold (r : AlarmRecord) (s : State) : (ownerTold r s).alm.records = s.alm.records := rfl

theorem alm_noticeOffered (code : Byte) (r : AlarmRecord) (s : State) : (noticeOffered code r s).alm = s.alm := by
  unfold noticeOffered
  dsimp only
  split
  · rfl
  · split
    · rw [State.offerUpUrgent_frame]
    · rw [State.offerUpNormal_frame]

theorem alm_raiseNoticed (old new : AlarmRecord) (s : State) : (raiseNoticed old new s).alm = s.alm := by
  unfold raiseNoticed
  split
  · exact alm_noticeOffered 1 new s
  · rfl

/-- A record put in the place of its pair's is found for it. -/
theorem alarmFor_recordPut (hk : k ≠ .listFull) (h : s.alarmFor k src = some r) (hkind : r'.kind = r.kind)
    (hsource : r'.source = r.source) : (recordPut r' s).alarmFor k src = some r' := by
  obtain ⟨rfl, rfl⟩ := pair_of_alarmFor hk h
  rw [alarmFor_eq_find hk] at h ⊢
  rw [← replaceRecord_eq_recordPut, replaceRecord, hkind, hsource]
  show List.find? _ (s.alm.records.map _) = _
  generalize s.alm.records = l at h ⊢
  induction l with
  | nil => cases h
  | cons x rest ih =>
    by_cases hx : x.isFor r.kind r.source = true
    · have hput : r'.isFor r.kind r.source = true := isFor_iff.2 ⟨hkind, hsource⟩
      rw [List.map_cons, if_pos hx, List.find?_cons_of_pos (p := fun y : AlarmRecord => y.isFor r.kind r.source) hput]
    · have hskip (l : List AlarmRecord) : ((x :: l).find? fun y => y.isFor r.kind r.source) =
          l.find? fun y => y.isFor r.kind r.source := List.find?_cons_of_neg hx
      rw [hskip] at h
      rw [List.map_cons, if_neg hx, hskip]
      exact ih h

theorem records_testListFull (s : State) : (testListFull s).alm.records = s.alm.records := by
  rw [testListFull_eq]
  split
  · rfl
  · split
    · rfl
    · split
      · rw [alm_noticeOffered]
      · rfl
      · rfl

theorem records_recordGone (r : AlarmRecord) (s : State) : (recordGone r s).alm.records =
    s.alm.records.filter fun x => !x.isFor r.kind r.source := by
  rw [← removeRecord_eq_recordGone]
  exact records_testListFull _

/-- A record taken out of the list leaves none of its pair. -/
theorem alarmFor_recordGone (hk : r.kind ≠ .listFull) (s : State) :
    (recordGone r s).alarmFor r.kind r.source = none := by
  rw [alarmFor_eq_find hk, records_recordGone, List.find?_eq_none]
  intro x hx
  simpa using (List.mem_filter.1 hx).2

end Pair

/-! A raise, a clear and an acknowledgement. -/

section Whole
variable {s : State} {k : AlarmKind} {src : Nat} {r : AlarmRecord}

/-- A raise of a pair with a record (R110). -/
theorem handle_raise_found (hk : k ≠ .listFull) (h : s.alarmFor k src = some r) (v : Option Int) :
    handle (.raise k src v) s = heldAfter (raiseNoticed r (raisedAgain s v r) (recordPut (raisedAgain s v r) s)) := by
  show alarmRaise k src v s = _
  rw [alarmRaise, if_neg hk, takeRaise, h]
  dsimp only
  rw [noticeIfCalled_eq_raiseNoticed, replaceRecord_eq_recordPut, evaluateHolding_eq_heldAfter]
  rfl

/-- A removal on request: the record, the evaluation, and the report to the owner (R111, R112, R113). -/
theorem removed_eq (r : AlarmRecord) (s : State) :
    removalReport r (evaluateHolding (removeRecord r s)) = ownerTold r (heldAfter (recordGone r s)) := by
  rw [removalReport_eq_ownerTold, evaluateHolding_eq_heldAfter, removeRecord_eq_recordGone]

/-- A clear of a pair with a record (R111). -/
theorem handle_clear_found (hk : k ≠ .listFull) (h : s.alarmFor k src = some r) :
    handle (.clear k src) s =
      match r.state with
      | .active =>
        heldAfter (noticeOffered 2 { r with state := .cleared } (recordPut { r with state := .cleared } s))
      | .acked => ownerTold r (heldAfter (recordGone r s))
      | .cleared => s := by
  show alarmClear k src s = _
  rw [alarmClear, if_neg hk, takeClear, h]
  cases hst : r.state with
  | active =>
    simp only [hst]
    rw [noticeCleared, offerAlarmNotice_eq_noticeOffered, replaceRecord_eq_recordPut, evaluateHolding_eq_heldAfter]
    rfl
  | acked =>
    simp only [hst]
    exact removed_eq r s
  | cleared => simp only [hst]

/-- An acknowledgement of a pair with a record (R112, R114). -/
theorem alarmAcknowledge_found (hk : k ≠ .listFull) (h : s.alarmFor k src = some r) :
    alarmAcknowledge k src s =
      match r.state with
      | .active =>
        if k = .feedJam then ownerTold r (heldAfter (recordGone r s)) else heldAfter (recordPut { r with state := .acked } s)
      | .acked => s
      | .cleared => ownerTold r (heldAfter (recordGone r s)) := by
  rw [alarmAcknowledge, if_neg hk, h]
  cases hst : r.state with
  | active =>
    simp only [hst]
    rw [removed_eq, replaceRecord_eq_recordPut, evaluateHolding_eq_heldAfter]
  | acked => simp only [hst]
  | cleared =>
    simp only [hst]
    exact removed_eq r s

/-- After a raise the record stands raised again. -/
theorem alarmFor_raise (hk : k ≠ .listFull) (h : s.alarmFor k src = some r) (v : Option Int) :
    (handle (.raise k src v) s).alarmFor k src = some (raisedAgain s v r) := by
  rw [handle_raise_found hk h, alarmFor_congr hk (records_heldAfter _),
    alarmFor_congr hk (congrArg Alarm.records (alm_raiseNoticed _ _ _))]
  exact alarmFor_recordPut hk h rfl rfl

/-- A removal on request leaves no record of the pair. -/
theorem alarmFor_removed (hk : k ≠ .listFull) (h : s.alarmFor k src = some r) :
    (ownerTold r (heldAfter (recordGone r s))).alarmFor k src = none := by
  obtain ⟨rfl, rfl⟩ := pair_of_alarmFor hk h
  rw [alarmFor_congr hk (records_ownerTold r _), alarmFor_congr hk (records_heldAfter _)]
  exact alarmFor_recordGone hk s

/-- After a clear an ACTIVE record is CLEARED, an ACKED one gone, a CLEARED one as it was. -/
theorem alarmFor_clear (hk : k ≠ .listFull) (h : s.alarmFor k src = some r) :
    (handle (.clear k src) s).alarmFor k src =
      match r.state with
      | .active => some { r with state := .cleared }
      | .acked => none
      | .cleared => some r := by
  rw [handle_clear_found hk h]
  cases hst : r.state with
  | active =>
    dsimp only
    rw [alarmFor_congr hk (records_heldAfter _), alarmFor_congr hk (congrArg Alarm.records (alm_noticeOffered _ _ _))]
    exact alarmFor_recordPut hk h rfl rfl
  | acked => exact alarmFor_removed hk h
  | cleared => exact h

/-- After an acknowledgement an ACTIVE record is ACKED, or gone for FEED_JAM, an ACKED one as it was, a CLEARED one gone. -/
theorem alarmFor_acknowledge (hk : k ≠ .listFull) (h : s.alarmFor k src = some r) :
    (alarmAcknowledge k src s).alarmFor k src =
      match r.state with
      | .active => if k = .feedJam then none else some { r with state := .acked }
      | .acked => some r
      | .cleared => none := by
  rw [alarmAcknowledge_found hk h]
  cases hst : r.state with
  | active =>
    dsimp only
    split
    · exact alarmFor_removed hk h
    · rw [alarmFor_congr hk (records_heldAfter _)]
      exact alarmFor_recordPut hk h rfl rfl
  | acked => exact h
  | cleared => exact alarmFor_removed hk h

/-- A pair without a record (R113). -/
theorem handle_clear_absent (hk : k ≠ .listFull) (h : s.alarmFor k src = none) :
    handle (.clear k src) s =
      if k = .overtemp then { s with events := s.events ++ [.overtempRemoved (src - 1)] } else s := by
  show alarmClear k src s = _
  rw [alarmClear, if_neg hk, takeClear, h]
  rfl

theorem alarmAcknowledge_absent (hk : k ≠ .listFull) (h : s.alarmFor k src = none) : alarmAcknowledge k src s = s := by
  rw [alarmAcknowledge, if_neg hk, h]

end Whole

/-! The owners. -/

/-- The feeder's off causes (R79). -/
theorem feederOffCause_iff (s : State) : s.feederOffCause = true ↔
    s.line.state = .idle ∨ s.line.state = .stopped ∨ s.line.state = .service ∨ s.pot.sensor = .fault ∨
      s.pot.sensor = .silent := by
  simp [State.feederOffCause, or_assoc]

/-- An OVERTEMP record removed: the latch goes and the loop is derived again (R49). -/
theorem overtempReleased_latched {s : State} {i : Nat} (hi : i < 5) (hlen : s.heat.loops.length = 5)
    (h : (s.loopCtx i).causes.latch = true) :
    let c := s.loopCtx i
    let t := overtempReleased i s
    t = deriveLoop i (s.setLoop i { c with causes := { c.causes with latch := false } }) ∧
      (t.loopCtx i).causes = { c.causes with latch := false } ∧ (t.loopCtx i).state = loopStateBy t i := by
  intro c t
  have hlt : i < s.heat.loops.length := by omega
  have ht : t = deriveLoop i (s.setLoop i { c with causes := { c.causes with latch := false } }) := if_pos h
  have hlt' : i < (s.setLoop i { c with causes := { c.causes with latch := false } }).heat.loops.length := by
    simpa [State.setLoop] using hlt
  refine ⟨ht, ?_, ?_⟩
  · rw [ht, causes_deriveLoop hi hlt', State.loopCtx_setLoop_self _ _ _ hlt]
  · rw [ht]
    exact state_deriveLoop hi hlt'

/-- A FEED_JAM record removed (R84). -/
theorem feedJamRelease_eq (s : State) : feedJamRelease s =
    if s.pot.jam = false then s
    else { s with
      pot.jam := false, pot.failures := 0
      pot.feeder :=
        if s.line.state = .idle ∨ s.line.state = .stopped ∨ s.line.state = .service ∨ s.pot.sensor = .fault ∨
          s.pot.sensor = .silent then .off else .idle } := by
  unfold feedJamRelease
  simp only [feederOffCause_iff]
  cases hjam : s.pot.jam with
  | false => rfl
  | true => rfl

/-- A LEVEL_CRITICAL record forces the pump command to 0 (R87). -/
theorem takeCriticalRecord_made (s : State) :
    (takeCriticalRecord true s).pot.pump = 0 ∧ (takeCriticalRecord true s).pot.forced = true := by
  have hforced : State.derivedPump { s with pot.criticalRecord := true } = (0, true) := by
    simp [State.derivedPump]
  rw [takeCriticalRecord, derivePump_frame, hforced]
  exact ⟨rfl, rfl⟩

/-- Settles O51: the record and the whole of a raise, a clear and an acknowledgement, and the owners' answers to the reports. -/
theorem Settled.alarmLifecycle : Obligations.AlarmLifecycle := by
  unfold Obligations.AlarmLifecycle
  refine ⟨fun s k src v r _ hk h => ⟨alarmFor_raise hk h v, alarmFor_clear hk h, alarmFor_acknowledge hk h⟩,
    fun s k src v r hk h => ⟨handle_raise_found hk h v, handle_clear_found hk h, alarmAcknowledge_found hk h⟩,
    fun s k src hk h => ⟨alarmAcknowledge_absent hk h, handle_clear_absent hk h⟩,
    fun s i hi hlen => ⟨fun hlatch => if_neg (by rw [hlatch]; decide), overtempReleased_latched hi hlen⟩,
    fun s => ⟨rfl, feedJamRelease_eq s⟩, fun s made => ⟨rfl, ?_⟩⟩
  rintro rfl
  exact takeCriticalRecord_made s

end Sys2Proof.Proofs
end

section
/-! SUPPORT. What is offered to the DOWN queues leaves the UP side of the loop interface (R151, R152), and an urgent zero waits or
is sent (R151, R153). -/
namespace Sys2Proof.Proofs
open Sys2Proof Sys2Proof.Machine Sys2Proof.Safety

/-- The loop interface without its DOWN queues and transmitter. -/
def upSide (s : State) : Net :=
  { s.net with downTx := none, downUrgent := [], downSlots := [], downFifo := [], downFair := 0 }

/-! The arbiter and the offers. -/

theorem upSide_grantSlot {s s1 : State} {f : OutFn} {v : Nat} {rest : List (OutFn × Nat)} {sent : Bool}
    (h : grantSlot s f v rest = (s1, sent)) : upSide s1 = upSide s := by
  unfold grantSlot at h
  split at h <;> cases h <;> rfl

theorem upSide_arbitrateDown (n : Nat) (s : State) : upSide (arbitrateDown n s) = upSide s := by
  induction n generalizing s with
  | zero => rfl
  | succ n ih =>
    unfold arbitrateDown
    split
    · split
      · rfl
      · exact ih _
    · split <;> try rfl
      all_goals
        split
        · next h => exact upSide_grantSlot h
        · next h => exact (ih _).trans (upSide_grantSlot h)

theorem upSide_wakeDown (s : State) : upSide s.wakeDown = upSide s := by
  unfold State.wakeDown
  split
  · rfl
  · exact upSide_arbitrateDown _ s

@[simp] theorem upSide_offerUrgentZero (s : State) (f : OutFn) : upSide (s.offerUrgentZero f) = upSide s :=
  upSide_wakeDown _

@[simp] theorem upSide_commandZero (s : State) (f : OutFn) : upSide (s.commandZero f) = upSide s := by
  unfold State.commandZero
  split
  · exact upSide_offerUrgentZero s f
  · rfl

@[simp] theorem upSide_commandValue (s : State) (f : OutFn) (v : Nat) : upSide (s.commandValue f v) = upSide s := by
  unfold State.commandValue
  split
  · exact upSide_wakeDown _
  · rfl

@[simp] theorem upSide_offerChange (s : State) (f : OutFn) (v : Nat) : upSide (s.offerChange f v) = upSide s := by
  unfold State.offerChange
  split
  · exact upSide_commandZero s f
  · exact upSide_commandValue s f v

@[simp] theorem upSide_post (s : State) (e : Event) : upSide (s.post e) = upSide s := rfl

/-! The blocks. -/

@[simp] theorem upSide_setManual (s : State) (i : Nat) (m : Option Nat) : upSide (setManual i m s) = upSide s := by
  unfold setManual
  split <;> rfl

@[simp] theorem upSide_evalInBand (s : State) (i : Nat) : upSide (evalInBand i s) = upSide s := by
  unfold evalInBand setMolten
  dsimp only
  repeat' split
  all_goals rfl

@[simp] theorem upSide_heatFailTest (s : State) (i : Nat) : upSide (heatFailTest i s) = upSide s := by
  unfold heatFailTest endHeatFail State.clearIf
  repeat' split
  all_goals rfl

@[simp] theorem upSide_testLoop (s : State) (i : Nat) : upSide (testLoop i s) = upSide s := by
  simp [testLoop]

theorem upSide_deriveLoop {s : State} {i : Nat} (hi : i < 5) (h : i < s.heat.loops.length) :
    upSide (deriveLoop i s) = upSide s := by
  rw [deriveLoop_eq hi h]
  split
  · rfl
  · cases loopStateBy s i with
    | off | fault => exact upSide_commandZero _ _
    | active =>
      refine (upSide_testLoop _ i).trans ?_
      split
      · exact upSide_commandZero _ _
      · rfl
    | manual => exact (upSide_testLoop _ i).trans (upSide_commandValue _ _ _)

@[simp] theorem upSide_deriveFeederCmd (s : State) : upSide (deriveFeederCmd s) = upSide s := by
  unfold deriveFeederCmd
  dsimp only
  split
  · rfl
  · split
    · exact (upSide_post _ _).trans (upSide_offerChange _ _ _)
    · exact upSide_offerChange _ _ _

@[simp] theorem upSide_deriveFeeder (s : State) : upSide (deriveFeeder s) = upSide s := by
  unfold deriveFeeder
  split
  · rfl
  · split
    · rfl
    · rfl
    · exact upSide_deriveFeederCmd _
    · exact upSide_deriveFeederCmd _
    · rfl

theorem upSide_derivePump (s : State) : upSide (derivePump s) = upSide s := by
  have hflag (b : Bool) : upSide (if b = true then interruptWave s else s) = upSide s := by cases b <;> rfl
  unfold derivePump
  dsimp only
  split
  · exact hflag _
  · exact (upSide_offerChange _ _ _).trans (hflag _)

theorem upSide_deriveFan (s : State) : upSide (deriveFan s) = upSide s := by
  unfold deriveFan
  dsimp only
  split
  · rfl
  · split
    · exact upSide_commandZero _ _
    · exact upSide_commandValue _ _ _

theorem upSide_applyFlow (s : State) : upSide (applyFlow s) = upSide s := by
  unfold applyFlow resetFlow State.clearIf
  split
  · split <;> split <;> rfl
  · rfl

theorem upSide_deriveDemand (s : State) : upSide (deriveDemand s) = upSide s := by
  unfold deriveDemand
  dsimp only
  split
  · exact upSide_deriveFan s
  · exact (upSide_deriveFan _).trans (upSide_applyFlow _)

theorem upSide_filterOnLine (old : LineState) (s : State) : upSide (filterOnLine old s) = upSide s := by
  have hfold (l : List OutFn) (t : State) : upSide (l.foldl (fun u f => u.offerUrgentZero f) t) = upSide t := by
    induction l generalizing t with
    | nil => rfl
    | cons f l ih => exact (ih _).trans (upSide_offerUrgentZero t f)
  unfold filterOnLine
  split
  · exact hfold _ _
  · rfl

/-! An offer to the UP normal queue. -/

theorem arbitrateUp_eq_upGranted (s : State) : arbitrateUp s = upGranted s := by
  unfold arbitrateUp upGranted State.upNormalHead
  cases hurgent : s.net.upUrgent with
  | cons t rest => rfl
  | nil =>
    by_cases hreserved : s.net.reserved = some 0
    · rw [if_pos hreserved, if_pos hreserved]
      cases s.net.upFifo <;> rfl
    rw [if_neg hreserved, if_neg hreserved]
    cases hnormal : s.net.upNormal with
    | nil => cases s.net.upFifo <;> rfl
    | cons t rest =>
      have hgrant : grantUpNormal s t =
          { s with
            net.upNormal := rest, net.reserved := s.net.reserved.map (fun p => p - 1), net.upFair := 0
            net.upTx := some (frame s.net.address t.dest t.kind t.payload) } := by
        rw [grantUpNormal, hnormal]
        rfl
      cases s.net.upFifo with
      | nil =>
        refine Eq.trans ?_ hgrant
        cases decide (Config.fairnessLimit ≤ s.net.upFair) <;> rfl
      | cons run fifo =>
        by_cases hfair : 4 ≤ s.net.upFair
        · rw [show decide (Config.fairnessLimit ≤ s.net.upFair) = true from decide_eq_true hfair]
          exact hgrant.trans (if_pos hfair).symm
        · rw [show decide (Config.fairnessLimit ≤ s.net.upFair) = false from decide_eq_false hfair]
          exact (if_neg hfair).symm

/-- An offer to the UP normal queue (R143, R152). -/
theorem offerUpNormal_eq_normalOffered (n : Telegram) (s : State) : s.offerUpNormal n = normalOffered n s := by
  have hplaces : s.upNormalOccupancy = s.net.upNormal.length + (if s.net.reserved = none then 0 else 1) := by
    unfold State.upNormalOccupancy
    cases s.net.reserved <;> rfl
  have hwake (u : State) : u.wakeUp = upOffered u := by
    unfold State.wakeUp upOffered
    rw [arbitrateUp_eq_upGranted]
    cases u.net.upTx <;> rfl
  unfold State.offerUpNormal normalOffered
  rw [hplaces, hwake]
  cases s.net.upLink <;> rfl

/-- A state whose UP side is another's differs from it in the DOWN side of the loop interface alone. -/
theorem net_of_upSide {s t : State} (h : upSide t = upSide s) : t.net = { s.net with
    downTx := t.net.downTx, downUrgent := t.net.downUrgent, downSlots := t.net.downSlots, downFifo := t.net.downFifo
    downFair := t.net.downFair } :=
  congrArg (fun n : Net => { n with
    downTx := t.net.downTx, downUrgent := t.net.downUrgent, downSlots := t.net.downSlots, downFifo := t.net.downFifo
    downFair := t.net.downFair }) h

/-- An offer to the UP normal queue reads and writes the UP side of the loop interface. -/
theorem upSide_normalOffered {s t : State} (h : upSide t = upSide s) (n : Telegram) :
    upSide (normalOffered n t) = upSide (normalOffered n s) := by
  have hgranted {u v : State} (h : upSide u = upSide v) : upSide (upGranted u) = upSide (upGranted v) := by
    unfold upGranted
    rw [net_of_upSide h]
    dsimp only
    generalize v.net.upUrgent = urgent
    generalize (if v.net.reserved = some 0 then [] else v.net.upNormal) = normal
    generalize v.net.upFifo = fifo
    match urgent, normal, fifo with
    | _ :: _, _, _ => rfl
    | [], [], [] => exact h
    | [], [], _ :: _ => rfl
    | [], _ :: _, [] => rfl
    | [], _ :: _, _ :: _ =>
      dsimp only
      split <;> rfl
  unfold normalOffered upOffered
  rw [net_of_upSide h]
  dsimp only
  by_cases hlink : s.net.upLink = false
  · rw [if_pos hlink, if_pos hlink]
    exact h
  rw [if_neg hlink, if_neg hlink]
  by_cases hfull : 16 ≤ s.net.upNormal.length + if s.net.reserved = none then 0 else 1
  · rw [if_pos hfull, if_pos hfull]
    rfl
  rw [if_neg hfull, if_neg hfull]
  by_cases hidle : s.net.upTx = none
  · rw [if_pos hidle, if_pos hidle]
    exact hgranted rfl
  · rw [if_neg hidle, if_neg hidle]
    rfl

/-! An urgent zero. -/

/-- An urgent zero of a function waits, or its OUTPUT run is the transmission, and no value of the function waits. -/
def ZeroOffered (run : List Byte) (f : OutFn) (s : State) : Prop :=
  (f ∈ s.net.downUrgent ∨ s.net.downTx = some run) ∧ f ∉ s.net.downSlots.map fun p => p.1

section Zero
variable {run : List Byte} {f : OutFn} {s : State}

/-- The DOWN arbiter passes a sendable function's urgent zero over only by sending it (R151, R153). -/
theorem zeroOffered_arbitrateDown (n : Nat) (hsend : s.sendable f = true) (hrun : s.outputRun f 0 = run)
    (hwaits : f ∈ s.net.downUrgent) (hslots : f ∉ s.net.downSlots.map fun p => p.1) :
    ZeroOffered run f (arbitrateDown n s) := by
  induction n generalizing s with
  | zero => exact ⟨.inl hwaits, hslots⟩
  | succ n ih =>
    unfold arbitrateDown
    cases hurgent : s.net.downUrgent with
    | nil => rw [hurgent] at hwaits; cases hwaits
    | cons g rest =>
      dsimp only
      rw [hurgent] at hwaits
      by_cases hg : s.sendable g = true
      · rw [if_pos hg]
        refine ⟨?_, hslots⟩
        rcases List.mem_cons.1 hwaits with rfl | hrest
        · exact .inr (congrArg some hrun)
        · exact .inl hrest
      · rw [if_neg hg]
        have hrest : f ∈ rest := (List.mem_cons.1 hwaits).resolve_left fun hfg => hg (hfg ▸ hsend)
        exact ih (s := { s with net.downUrgent := rest }) hsend hrun hrest hslots

theorem ZeroOffered.wakeDown (h : ZeroOffered run f s) (hsend : s.sendable f = true) (hrun : s.outputRun f 0 = run) :
    ZeroOffered run f s.wakeDown := by
  unfold State.wakeDown
  cases htx : s.net.downTx with
  | some r => exact h
  | none => exact zeroOffered_arbitrateDown _ hsend hrun (h.1.resolve_right (by rw [htx]; exact nofun)) h.2

/-- An urgent zero stands through those offered after it. -/
theorem ZeroOffered.offerUrgentZero (h : ZeroOffered run f s) (hsend : s.sendable f = true) (hrun : s.outputRun f 0 = run)
    (g : OutFn) : ZeroOffered run f (s.offerUrgentZero g) := by
  refine ZeroOffered.wakeDown ⟨h.1.imp_left fun hwaits => ?_, fun hslot => h.2 ?_⟩ hsend hrun
  · show f ∈ if _ then _ else _
    split
    · exact hwaits
    · exact List.mem_append_left _ hwaits
  · exact (List.filter_sublist.map _).mem hslot

/-- An urgent zero is offered (R151). -/
theorem zeroOffered_offerUrgentZero (hsend : s.sendable f = true) (hrun : s.outputRun f 0 = run) :
    ZeroOffered run f (s.offerUrgentZero f) := by
  refine ZeroOffered.wakeDown ⟨.inl ?_, fun hslot => ?_⟩ hsend hrun
  · show f ∈ if _ then _ else _
    split
    · next hwaits => exact List.contains_iff_mem.1 hwaits
    · exact List.mem_append_right _ (List.mem_singleton_self f)
  · obtain ⟨p, hp, rfl⟩ := List.mem_map.1 hslot
    exact absurd (List.mem_filter.1 hp).2 (by simp)

/-- An urgent zero changes neither whether a function's commands are sent nor their runs. -/
theorem sendable_offerUrgentZero (s : State) (g f : OutFn) : (s.offerUrgentZero g).sendable f = s.sendable f :=
  sendable_congr (by rw [State.offerUrgentZero_frame]) (by rw [State.offerUrgentZero_frame]) f

theorem outputRun_offerUrgentZero (s : State) (g f : OutFn) (v : Nat) :
    (s.offerUrgentZero g).outputRun f v = s.outputRun f v := by
  have haddress : (s.offerUrgentZero g).net.address = s.net.address := (congrArg Net.address (upSide_offerUrgentZero s g) :)
  have htab : (s.offerUrgentZero g).tab = s.tab := by rw [State.offerUrgentZero_frame]
  rw [State.outputRun, State.outputRun, State.outputRow, State.outputRow, haddress, htab]

/-- Each function of a list gets its urgent zero (R168). -/
theorem zeroOffered_foldl {l : List OutFn} (hmem : f ∈ l ∨ ZeroOffered run f s) (hsend : s.sendable f = true)
    (hrun : s.outputRun f 0 = run) : ZeroOffered run f (l.foldl (fun t g => t.offerUrgentZero g) s) := by
  induction l generalizing s with
  | nil => exact hmem.resolve_left List.not_mem_nil
  | cons g l ih =>
    refine ih ?_ ((sendable_offerUrgentZero s g f).trans hsend) ((outputRun_offerUrgentZero s g f 0).trans hrun)
    rcases hmem with hmem | hoffered
    · rcases List.mem_cons.1 hmem with rfl | hrest
      · exact .inr (zeroOffered_offerUrgentZero hsend hrun)
      · exact .inl hrest
    · exact .inr (hoffered.offerUrgentZero hsend hrun g)

end Zero

end Sys2Proof.Proofs
end

section
/-! SUPPORT. What each block does at a change of the line state (R130). -/
namespace Sys2Proof.Proofs
open Sys2Proof Sys2Proof.Machine Sys2Proof.Safety

/-! Heat: every loop stands in the state the new line state gives it (R45, R130). -/

section Heat
variable {s : State}

/-- The loops derived one after another: what each derivation carries on holds at the end. -/
theorem forLoops_deriveLoop_induct {P : Nat → State → Prop}
    (hstep : ∀ i t, i < 5 → t.heat.loops.length = 5 → P i t → P (i + 1) (deriveLoop i t))
    (hlen : s.heat.loops.length = 5) (hs : P 0 s) : P 5 (forLoops deriveLoop s) := by
  have hnext (i : Nat) (hi : i < 5) (t : State) (ht : t.heat.loops.length = 5 ∧ P i t) :
      (deriveLoop i t).heat.loops.length = 5 ∧ P (i + 1) (deriveLoop i t) :=
    ⟨length_deriveLoop.trans ht.1, hstep i t hi ht.1 ht.2⟩
  rw [forLoops_eq]
  exact (hnext 4 (by decide) _ (hnext 3 (by decide) _ (hnext 2 (by decide) _ (hnext 1 (by decide) _
    (hnext 0 (by decide) s ⟨hlen, hs⟩))))).2

/-- Deriving a loop leaves the state another is derived in. -/
theorem derivedLoopState_deriveLoop_other {i j : Nat} (hi : i < 5) (h : i < s.heat.loops.length) (hij : i ≠ j) :
    (deriveLoop i s).derivedLoopState j = s.derivedLoopState j := by
  have hK : (deriveLoop i s).K j 5 = s.K j 5 := K_congr (congrArg State.tab (exceptHeat_deriveLoop s i) :) j 5
  rw [derivedLoopState_eq_stateBy, derivedLoopState_eq_stateBy, hK, line_of_exceptHeat (exceptHeat_deriveLoop s i),
    stateBy_congr (loopDrive_deriveLoop_other hi h hij)]

theorem states_deriveAll (hlen : s.heat.loops.length = 5) {i : Nat} (hi : i < 5) :
    ((forLoops deriveLoop s).loopCtx i).state = (forLoops deriveLoop s).derivedLoopState i := by
  refine forLoops_deriveLoop_induct (P := fun n t => ∀ j, j < n → (t.loopCtx j).state = t.derivedLoopState j)
    (fun i t hi hlen ht j hj => ?_) hlen (fun j hj => absurd hj (Nat.not_lt_zero j)) i hi
  have hlt : i < t.heat.loops.length := hlen ▸ hi
  rcases Nat.lt_succ_iff_lt_or_eq.1 hj with hother | rfl
  · have hij : i ≠ j := (Nat.ne_of_lt hother).symm
    rw [derivedLoopState_deriveLoop_other hi hlt hij, ← ht j hother]
    exact (congrArg LoopCtx.state (loopDrive_deriveLoop_other hi hlt hij) :)
  · rw [derivedLoopState_eq_loopStateBy]
    exact state_deriveLoop hi hlt

theorem manuals_deriveAll (hlen : s.heat.loops.length = 5) (hs : ∀ i, (s.loopCtx i).manual = none) (i : Nat) :
    ((forLoops deriveLoop s).loopCtx i).manual = none :=
  forLoops_deriveLoop_induct (P := fun _ t => ∀ j, (t.loopCtx j).manual = none)
    (fun _ _ hi hlen ht j => manual_deriveLoop hi (hlen ▸ hi) j (ht j)) hlen hs i

theorem exceptHeat_heatOnLine (old : LineState) (s : State) : exceptHeat (heatOnLine old s) = exceptHeat s := by
  have hderive (t : State) : exceptHeat (forLoops deriveLoop t) = exceptHeat t :=
    forLoops_keeps (P := fun u => exceptHeat u = exceptHeat t) (fun i u h => (exceptHeat_deriveLoop u i).trans h) t rfl
  unfold heatOnLine
  split
  · exact (hderive _).trans (exceptHeat_clearManuals s)
  · exact hderive s

theorem length_clearManuals (hlen : s.heat.loops.length = 5) :
    (forLoops (fun i t => setManual i none t) s).heat.loops.length = 5 := by
  rw [loops_clearManuals hlen, List.length_map, hlen]

theorem states_heatOnLine (hlen : s.heat.loops.length = 5) (old : LineState) {i : Nat} (hi : i < 5) :
    ((heatOnLine old s).loopCtx i).state = (heatOnLine old s).derivedLoopState i := by
  unfold heatOnLine
  refine states_deriveAll ?_ hi
  split
  · exact length_clearManuals hlen
  · exact hlen

/-- Leaving SERVICE ends every manual duty (R59). -/
theorem manuals_heatOnLine (hlen : s.heat.loops.length = 5) (i : Nat) :
    ((heatOnLine .service s).loopCtx i).manual = none := by
  unfold heatOnLine
  rw [if_pos rfl]
  refine manuals_deriveAll (length_clearManuals hlen) (fun j => ?_) i
  rw [State.loopCtx, loops_clearManuals hlen]
  exact congrArg LoopCtx.manual (List.getD_map s.heat.loops ({} : LoopCtx) fun c => { c with manual := none })

theorem upSide_heatOnLine (hlen : s.heat.loops.length = 5) (old : LineState) : upSide (heatOnLine old s) = upSide s := by
  have hderive {t : State} (hlen : t.heat.loops.length = 5) : upSide (forLoops deriveLoop t) = upSide t :=
    forLoops_deriveLoop_induct (P := fun _ u => upSide u = upSide t)
      (fun i u hi hlen h => (upSide_deriveLoop hi (hlen ▸ hi)).trans h) hlen rfl
  unfold heatOnLine
  split
  · exact (hderive (length_clearManuals hlen)).trans
      (forLoops_keeps (P := fun u => upSide u = upSide s) (fun i u h => (upSide_setManual u i none).trans h) s rfl)
  · exact hderive hlen

end Heat

/-! Flux: eligibility (R33). -/

theorem sprayEligible_fluxEvaluate (s : State) : (fluxEvaluate s).sprayEligible = s.sprayEligible ∧
    (fluxEvaluate s).flux.eligible = s.flux.eligible := by
  unfold fluxEvaluate moveFluxStates driveValve
  dsimp only
  split <;> exact ⟨rfl, rfl⟩

theorem eligible_recomputeEligible (s : State) :
    (recomputeEligible s).flux.eligible = (recomputeEligible s).sprayEligible := by
  unfold recomputeEligible
  split
  · next hsame => exact hsame.symm
  · obtain ⟨hspray, heligible⟩ := sprayEligible_fluxEvaluate { s with flux.eligible := s.sprayEligible }
    rw [hspray, heligible]
    rfl

theorem upSide_recomputeEligible (s : State) : upSide (recomputeEligible s) = upSide s :=
  (congrArg upSide (exceptFlux_recomputeEligible s) :)

/-! Pot: the feeder (R79), the FEEDER command (R92), the pump command (R87). -/

section PotBlock
variable {s : State}

/-- Leaving SERVICE ends the manual pump and feeder values, which are reported (R92). -/
def potUnmanned (old : LineState) (s : State) : State :=
  if old = .service then
    State.post (State.post { s with pot.manualPump := none, pot.manualFeeder := none } (.pumpReport false)) (.feederReport false)
  else s

theorem potUnmanned_frame (old : LineState) (s : State) : potUnmanned old s =
    { s with
      pot := { s.pot with
        manualPump := if old = .service then none else s.pot.manualPump
        manualFeeder := if old = .service then none else s.pot.manualFeeder }
      events := (potUnmanned old s).events } := by
  unfold potUnmanned
  split <;> rfl

theorem potOnLine_eq (old : LineState) (s : State) :
    potOnLine old s = derivePump (deriveFeederCmd (deriveFeeder (potUnmanned old s))) := rfl

/-- The pump command is the derived one (R87). -/
theorem pump_derivePump (s : State) : (derivePump s).pot.pump = (derivePump s).derivedPump.1 := by
  rw [derivedPump_derivePump]
  exact congrArg (fun t : State => t.pot.pump) (derivePump_frame s)

/-- Deriving the pump command leaves the feeder and the manual values. -/
theorem pot_derivePump (s : State) :
    (derivePump s).pot = { s.pot with pump := s.derivedPump.1, forced := s.derivedPump.2 } := by
  rw [derivePump_frame, pumpFlagged_frame]

theorem pot_deriveFeederCmd (s : State) : (deriveFeederCmd s).pot = { s.pot with feederCmd := s.derivedFeeder } := by
  unfold deriveFeederCmd
  dsimp only
  split
  · next hsame => rw [hsame]
  · split
    · show (State.offerChange _ _ _).pot = _
      rw [offerChange_frame]
    · rw [offerChange_frame]

/-- The state a feeder is derived in without a jam (R79). -/
def feederBy (off : Bool) (f : FeederState) : FeederState :=
  match f with
  | .off => if off = true then .off else .idle
  | .idle => if off = true then .off else .idle
  | .feeding => if off = true then .off else .feeding
  | .paused => if off = true then .off else .paused
  | .jammed => .jammed

/-- The end of an attempt (R81, R84, R85). -/
theorem pot_endAttempt (f : FeederState) (s : State) : (endAttempt f s).pot =
    { s.pot with
      feeder := f, feedTimer := none, baseline := none, feedDrive := 0
      feederCmd := (endAttempt f s).pot.feederCmd } :=
  congrArg State.pot (setDrive_frame 0 _)

/-- Deriving the feeder gives it the state of R79. -/
theorem feeder_deriveFeeder (s : State) : (deriveFeeder s).pot.feeder =
    if s.pot.jam = true then s.pot.feeder else feederBy s.feederOffCause s.pot.feeder := by
  unfold deriveFeeder
  by_cases hjam : s.pot.jam = true
  · rw [if_pos hjam, if_pos hjam]
  rw [if_neg hjam, if_neg hjam]
  cases s.feederOffCause with
  | false =>
    cases hfeeder : s.pot.feeder with
    | off => rfl
    | idle | feeding | paused | jammed => exact hfeeder
  | true =>
    cases hfeeder : s.pot.feeder with
    | idle => rfl
    | off | jammed => exact hfeeder
    | feeding | paused =>
      rw [pot_endAttempt]
      rfl

/-- A new off cause discards the attempt (R79, R85). -/
theorem attempt_deriveFeeder (hjam : s.pot.jam = false) (hoff : s.feederOffCause = true)
    (hattempt : s.pot.feeder = .feeding ∨ s.pot.feeder = .paused) :
    (deriveFeeder s).pot.feedTimer = none ∧ (deriveFeeder s).pot.baseline = none ∧ (deriveFeeder s).pot.feedDrive = 0 := by
  have hends : deriveFeeder s = endAttempt .off s := by
    unfold deriveFeeder
    rw [hjam, hoff]
    rcases hattempt with hfeeder | hfeeder <;> rw [hfeeder] <;> rfl
  rw [hends, pot_endAttempt]
  exact ⟨rfl, rfl, rfl⟩

/-- Deriving the feeder leaves the failure count and the manual values. -/
theorem kept_deriveFeeder (s : State) : (deriveFeeder s).pot.failures = s.pot.failures ∧
    (deriveFeeder s).pot.manualPump = s.pot.manualPump ∧ (deriveFeeder s).pot.manualFeeder = s.pot.manualFeeder := by
  unfold deriveFeeder
  split
  · exact ⟨rfl, rfl, rfl⟩
  · split <;> try exact ⟨rfl, rfl, rfl⟩
    all_goals
      rw [pot_endAttempt]
      exact ⟨rfl, rfl, rfl⟩

theorem upSide_potOnLine (old : LineState) (s : State) : upSide (potOnLine old s) = upSide s := by
  have hunmanned : upSide (potUnmanned old s) = upSide s := by
    unfold potUnmanned
    split <;> rfl
  rw [potOnLine_eq, upSide_derivePump, upSide_deriveFeederCmd, upSide_deriveFeeder, hunmanned]

/-- The pot controller's commands are the derived ones after a change of the line state (R87, R92). -/
theorem commands_potOnLine (old : LineState) (s : State) :
    (potOnLine old s).pot.pump = (potOnLine old s).derivedPump.1 ∧
      (potOnLine old s).pot.feederCmd = (potOnLine old s).derivedFeeder := by
  rw [potOnLine_eq]
  refine ⟨pump_derivePump _, ?_⟩
  unfold State.derivedFeeder
  rw [pot_derivePump, line_of_exceptPot (exceptPot_derivePump _), line_of_exceptPot (exceptPot_deriveFeederCmd _),
    pot_deriveFeederCmd]
  rfl

/-- The pump and feeder commands apart, the pot controller stands as its feeder was derived. -/
theorem pot_potOnLine (old : LineState) (s : State) : (potOnLine old s).pot =
    { (deriveFeeder (potUnmanned old s)).pot with
      pump := (potOnLine old s).pot.pump, forced := (potOnLine old s).pot.forced
      feederCmd := (potOnLine old s).pot.feederCmd } := by
  rw [potOnLine_eq, pot_derivePump, pot_deriveFeederCmd]

theorem feederOffCause_potUnmanned (old : LineState) (s : State) : (potUnmanned old s).feederOffCause = s.feederOffCause := by
  rw [potUnmanned_frame]
  rfl

theorem feeder_potOnLine (old : LineState) (s : State) : (potOnLine old s).pot.feeder =
    if s.pot.jam = true then s.pot.feeder else feederBy s.feederOffCause s.pot.feeder := by
  rw [pot_potOnLine]
  refine (feeder_deriveFeeder _).trans ?_
  rw [feederOffCause_potUnmanned, potUnmanned_frame]

theorem attempt_potOnLine (old : LineState) (hjam : s.pot.jam = false) (hoff : s.feederOffCause = true)
    (hattempt : s.pot.feeder = .feeding ∨ s.pot.feeder = .paused) :
    (potOnLine old s).pot.feedTimer = none ∧ (potOnLine old s).pot.baseline = none ∧ (potOnLine old s).pot.feedDrive = 0 := by
  rw [pot_potOnLine]
  have hframe := potUnmanned_frame old s
  exact attempt_deriveFeeder (by rw [hframe]; exact hjam) (by rw [feederOffCause_potUnmanned]; exact hoff)
    (by rw [hframe]; exact hattempt)

theorem kept_potOnLine (old : LineState) (s : State) : (potOnLine old s).pot.failures = s.pot.failures ∧
    (potOnLine old s).pot.manualPump = (if old = .service then none else s.pot.manualPump) ∧
    (potOnLine old s).pot.manualFeeder = (if old = .service then none else s.pot.manualFeeder) := by
  obtain ⟨hfailures, hpump, hfeeder⟩ := kept_deriveFeeder (potUnmanned old s)
  rw [pot_potOnLine]
  refine ⟨hfailures.trans ?_, hpump.trans ?_, hfeeder.trans ?_⟩ <;> rw [potUnmanned_frame]

end PotBlock

/-! Exhaust: the run-on (R97) and fan demand (R96). -/

theorem derivedDemand_eq_demandBy (s : State) : s.derivedDemand = demandBy s := by
  unfold State.derivedDemand demandBy State.manualDemandsFan
  rw [lineDemandsFan_eq]
  cases s.line.state <;> rfl

theorem lineDemandsFan_eq_fanState (st : LineState) : lineDemandsFan st = fanState st := by
  cases st <;> rfl

/-- What fan demand is derived from, besides the line state (R96). -/
def demandSources (s : State) : Exhaust :=
  { runOn := s.exh.runOn, valveOpen := s.exh.valveOpen, manualFan := s.exh.manualFan, srcHeater := s.exh.srcHeater
    srcPump := s.exh.srcPump, srcFeeder := s.exh.srcFeeder, demand := s.exh.demand }

theorem demandSources_deriveFan (s : State) : demandSources (deriveFan s) = demandSources s := by
  unfold deriveFan
  dsimp only
  split
  · rfl
  · split
    · rw [State.commandZero_frame]
      rfl
    · rw [State.commandValue_frame]
      rfl

theorem demandSources_applyFlow (s : State) : demandSources (applyFlow s) = demandSources s := by
  unfold applyFlow resetFlow State.clearIf
  split
  · split <;> split <;> rfl
  · rfl

/-- Deriving fan demand writes it and leaves its sources (R96). -/
theorem demandSources_deriveDemand (s : State) :
    demandSources (deriveDemand s) = { demandSources s with demand := demandBy s } := by
  unfold deriveDemand
  rw [derivedDemand_eq_demandBy]
  dsimp only
  split
  · next hsame =>
    rw [demandSources_deriveFan, hsame]
    rfl
  · rw [demandSources_deriveFan, demandSources_applyFlow]
    rfl

theorem demandBy_congr {s t : State} {demand : Bool} (hline : t.line = s.line)
    (h : demandSources t = { demandSources s with demand }) : demandBy t = demandBy s := by
  have hrunOn : t.exh.runOn = s.exh.runOn := (congrArg Exhaust.runOn h :)
  have hvalve : t.exh.valveOpen = s.exh.valveOpen := (congrArg Exhaust.valveOpen h :)
  have hfan : t.exh.manualFan = s.exh.manualFan := (congrArg Exhaust.manualFan h :)
  have hheater : t.exh.srcHeater = s.exh.srcHeater := (congrArg Exhaust.srcHeater h :)
  have hpump : t.exh.srcPump = s.exh.srcPump := (congrArg Exhaust.srcPump h :)
  have hfeeder : t.exh.srcFeeder = s.exh.srcFeeder := (congrArg Exhaust.srcFeeder h :)
  rw [demandBy, demandBy, hline, hrunOn, hvalve, hfan, hheater, hpump, hfeeder]

/-- The exhaust monitor at a change of the line state: the run-on, the end of the manual fan value, the demand (R96, R97, R98). -/
theorem demandSources_exhaustOnLine (old : LineState) (s : State) : demandSources (exhaustOnLine old s) =
    { demandSources s with
      runOn := runOnAfter s old s.line.state, manualFan := if old = .service then none else s.exh.manualFan
      demand := demandBy (exhaustOnLine old s) } := by
  have hsources := demandSources_deriveDemand
    { s with exh := { s.exh with
      runOn := runOnAfter s old s.line.state, manualFan := if old = .service then none else s.exh.manualFan } }
  have hdemand := demandBy_congr (line_of_exceptExhaust (exceptExhaust_deriveDemand _)) hsources
  rw [← hdemand] at hsources
  exact hsources

theorem runOnAfter_eq (s : State) (old new : LineState) : runOnAfter s old new =
    if fanState new = true then none
    else if new = .idle ∧ fanState old = true then (if s.L 38 = 0 then none else some 0)
    else s.exh.runOn := by
  have hrunOn : s.runOnMs = 0 ↔ s.L 38 = 0 := by
    rw [State.runOnMs]
    omega
  unfold runOnAfter
  simp only [lineDemandsFan_eq_fanState, hrunOn]

/-! Filter: the marks end and each marked function gets its urgent zero (R168). -/

theorem filterOnLine_frame (old : LineState) (s : State) : filterOnLine old s =
    { s with
      filt.marks := if old = .service then List.replicate 8 false else s.filt.marks
      net := (filterOnLine old s).net } := by
  have hfold (l : List OutFn) (t : State) : l.foldl (fun u f => u.offerUrgentZero f) t =
      { t with net := (l.foldl (fun u f => u.offerUrgentZero f) t).net } := by
    induction l generalizing t with
    | nil => rfl
    | cons f l ih => exact net_frame_trans (ih _) (State.offerUrgentZero_frame t f)
  unfold filterOnLine
  split
  · exact hfold _ _
  · rfl

theorem zeroOffered_filterOnLine {s : State} {f : OutFn} (hmarked : s.marked f = true)
    (hbound : (s.outputRow f).bound = true) : ZeroOffered (s.outputRun f 0) f (filterOnLine .service s) := by
  have hfree : ({ s with filt.marks := List.replicate 8 false } : State).sendable f = true := by
    have hunmarked : (List.replicate 8 false).getD (outFnNum f) false = false := by cases f <;> rfl
    exact Bool.and_eq_true_iff.2 ⟨hbound, congrArg not hunmarked⟩
  have hmem : f ∈ outFns.filter fun f => s.marked f && (s.outputRow f).bound := by
    refine List.mem_filter.2 ⟨by cases f <;> decide, ?_⟩
    rw [hmarked, hbound]
    rfl
  exact zeroOffered_foldl (.inl hmem) hfree rfl

/-! An offer on UP leaves the DOWN queues. -/

theorem ZeroOffered.offerUpNormal {run : List Byte} {f : OutFn} {s : State} (h : ZeroOffered run f s) (n : Telegram) :
    ZeroOffered run f (s.offerUpNormal n) := by
  unfold State.offerUpNormal State.wakeUp arbitrateUp
  repeat' split
  all_goals exact h

end Sys2Proof.Proofs
end

section
/-! SUPPORT. A change of the line state, block by block (R130), and the line controller's tests (R128, R129). -/
namespace Sys2Proof.Proofs
open Sys2Proof Sys2Proof.Machine Sys2Proof.Safety

/-! What a block leaves of the others. -/

section Except
variable {s t : State}

theorem tab_of_exceptHeat (h : exceptHeat t = exceptHeat s) : t.tab = s.tab := (congrArg State.tab h :)
theorem pot_of_exceptHeat (h : exceptHeat t = exceptHeat s) : t.pot = s.pot := (congrArg State.pot h :)
theorem exh_of_exceptHeat (h : exceptHeat t = exceptHeat s) : t.exh = s.exh := (congrArg State.exh h :)
theorem filt_of_exceptHeat (h : exceptHeat t = exceptHeat s) : t.filt = s.filt := (congrArg State.filt h :)
theorem tab_of_exceptFlux (h : exceptFlux t = exceptFlux s) : t.tab = s.tab := (congrArg State.tab h :)
theorem heat_of_exceptFlux (h : exceptFlux t = exceptFlux s) : t.heat = s.heat := (congrArg State.heat h :)
theorem pot_of_exceptFlux (h : exceptFlux t = exceptFlux s) : t.pot = s.pot := (congrArg State.pot h :)
theorem exh_of_exceptFlux (h : exceptFlux t = exceptFlux s) : t.exh = s.exh := (congrArg State.exh h :)
theorem filt_of_exceptFlux (h : exceptFlux t = exceptFlux s) : t.filt = s.filt := (congrArg State.filt h :)
theorem tab_of_exceptPot (h : exceptPot t = exceptPot s) : t.tab = s.tab := (congrArg State.tab h :)
theorem heat_of_exceptPot (h : exceptPot t = exceptPot s) : t.heat = s.heat := (congrArg State.heat h :)
theorem flux_of_exceptPot (h : exceptPot t = exceptPot s) : t.flux = s.flux := (congrArg State.flux h :)
theorem exh_of_exceptPot (h : exceptPot t = exceptPot s) : t.exh = s.exh := (congrArg State.exh h :)
theorem filt_of_exceptPot (h : exceptPot t = exceptPot s) : t.filt = s.filt := (congrArg State.filt h :)
theorem tab_of_exceptExhaust (h : exceptExhaust t = exceptExhaust s) : t.tab = s.tab := (congrArg State.tab h :)
theorem heat_of_exceptExhaust (h : exceptExhaust t = exceptExhaust s) : t.heat = s.heat := (congrArg State.heat h :)
theorem flux_of_exceptExhaust (h : exceptExhaust t = exceptExhaust s) : t.flux = s.flux := (congrArg State.flux h :)
theorem pot_of_exceptExhaust (h : exceptExhaust t = exceptExhaust s) : t.pot = s.pot := (congrArg State.pot h :)
theorem trk_of_exceptExhaust (h : exceptExhaust t = exceptExhaust s) : t.trk = s.trk := (congrArg State.trk h :)
theorem filt_of_exceptExhaust (h : exceptExhaust t = exceptExhaust s) : t.filt = s.filt := (congrArg State.filt h :)

end Except

/-! The stages of a change: the state after each block has taken it. -/

/-- The line state as changed, before any block takes it. -/
def turned (new : LineState) (s : State) : State := { s with line.state := new, line.settle := 0 }

/-- After the heat controller. -/
@[irreducible] def afterHeat (new : LineState) (s : State) : State := heatOnLine s.line.state (turned new s)

/-- After the flux controller. -/
@[irreducible] def afterFlux (new : LineState) (s : State) : State := recomputeEligible (afterHeat new s)

/-- After the pot controller. -/
@[irreducible] def afterPot (new : LineState) (s : State) : State := potOnLine s.line.state (afterFlux new s)

/-- After the exhaust monitor. -/
@[irreducible] def afterExhaust (new : LineState) (s : State) : State := exhaustOnLine s.line.state (afterPot new s)

/-- After the filter, the last block. -/
@[irreducible] def afterBlocks (new : LineState) (s : State) : State := filterOnLine s.line.state (afterExhaust new s)

/-- After the line controller's own lines. -/
def afterLines (new : LineState) (s : State) : State := deriveLamps (deriveHold (derivePermit (afterBlocks new s)))

section Stages
variable (new : LineState) (cause : LineCause) (s : State)

theorem changeLine_eq_offer :
    changeLine new cause s = (afterLines new s).offerUpNormal (noticeLineState s.line.state new cause s.line.clock) := by
  unfold changeLine blocksOnLine afterLines afterBlocks afterExhaust afterPot afterFlux afterHeat turned
  rfl

/-- The notice writes the loop interface and the mailbox; the rest stands as the blocks and the lines left it. -/
theorem changeLine_frame : changeLine new cause s =
    { afterLines new s with net := (changeLine new cause s).net, events := (changeLine new cause s).events } := by
  rw [changeLine_eq_offer]
  exact State.offerUpNormal_frame _ _

theorem exceptHeat_afterHeat : exceptHeat (afterHeat new s) = exceptHeat (turned new s) := by
  unfold afterHeat
  exact exceptHeat_heatOnLine _ _
theorem exceptFlux_afterFlux : exceptFlux (afterFlux new s) = exceptFlux (afterHeat new s) := by
  unfold afterFlux
  exact exceptFlux_recomputeEligible _
theorem exceptPot_afterPot : exceptPot (afterPot new s) = exceptPot (afterFlux new s) := by
  unfold afterPot
  exact exceptPot_potOnLine _ _
theorem exceptExhaust_afterExhaust : exceptExhaust (afterExhaust new s) = exceptExhaust (afterPot new s) := by
  unfold afterExhaust
  exact exceptExhaust_exhaustOnLine _ _

theorem afterBlocks_frame : afterBlocks new s =
    { afterExhaust new s with
      filt.marks := if s.line.state = .service then List.replicate 8 false else (afterExhaust new s).filt.marks
      net := (afterBlocks new s).net } := by
  unfold afterBlocks
  exact filterOnLine_frame _ _

/-! The part of each block, through the blocks after it. -/

theorem line_afterPot : (afterPot new s).line = { s.line with state := new, settle := 0 } :=
  (line_of_exceptPot (exceptPot_afterPot new s)).trans ((line_of_exceptFlux (exceptFlux_afterFlux new s)).trans
    (line_of_exceptHeat (s := turned new s) (exceptHeat_afterHeat new s)))

theorem line_afterExhaust : (afterExhaust new s).line = { s.line with state := new, settle := 0 } :=
  (line_of_exceptExhaust (exceptExhaust_afterExhaust new s)).trans (line_afterPot new s)

theorem line_afterBlocks : (afterBlocks new s).line = { s.line with state := new, settle := 0 } := by
  rw [afterBlocks, line_filterOnLine, line_afterExhaust]

theorem tab_afterHeat : (afterHeat new s).tab = s.tab := tab_of_exceptHeat (s := turned new s) (exceptHeat_afterHeat new s)
theorem tab_afterFlux : (afterFlux new s).tab = s.tab :=
  (tab_of_exceptFlux (exceptFlux_afterFlux new s)).trans (tab_afterHeat new s)
theorem tab_afterPot : (afterPot new s).tab = s.tab :=
  (tab_of_exceptPot (exceptPot_afterPot new s)).trans (tab_afterFlux new s)
theorem tab_afterExhaust : (afterExhaust new s).tab = s.tab :=
  (tab_of_exceptExhaust (exceptExhaust_afterExhaust new s)).trans (tab_afterPot new s)

/-- The line controller and the filter leave the other blocks as the exhaust monitor left them. -/
theorem changeLine_exceptLines : ∃ (pins : Pins) (stall : Nat) (line : Line) (net : Net) (marks : List Bool) (events : List Event),
    changeLine new cause s =
      { afterExhaust new s with pins, trk.stallTimer := stall, line, net, filt.marks := marks, events } := by
  have hlines (u : State) : deriveLamps (deriveHold (derivePermit u)) =
      { u with
        pins := (deriveLamps (deriveHold (derivePermit u))).pins
        trk.stallTimer := (deriveHold u).trk.stallTimer } := rfl
  exact ⟨_, _, (afterExhaust new s).line, _, _, _, by rw [changeLine_frame, afterLines, hlines, afterBlocks_frame]⟩

theorem tab_changeLine : (changeLine new cause s).tab = s.tab := by
  obtain ⟨_, _, _, _, _, _, h⟩ := changeLine_exceptLines new cause s
  rw [h]
  exact tab_afterExhaust new s

theorem heat_changeLine : (changeLine new cause s).heat = (afterHeat new s).heat := by
  obtain ⟨_, _, _, _, _, _, h⟩ := changeLine_exceptLines new cause s
  rw [h]
  calc (afterExhaust new s).heat
    _ = (afterPot new s).heat := heat_of_exceptExhaust (exceptExhaust_afterExhaust new s)
    _ = (afterFlux new s).heat := heat_of_exceptPot (exceptPot_afterPot new s)
    _ = (afterHeat new s).heat := heat_of_exceptFlux (exceptFlux_afterFlux new s)

theorem flux_changeLine : (changeLine new cause s).flux = (afterFlux new s).flux := by
  obtain ⟨_, _, _, _, _, _, h⟩ := changeLine_exceptLines new cause s
  rw [h]
  calc (afterExhaust new s).flux
    _ = (afterPot new s).flux := flux_of_exceptExhaust (exceptExhaust_afterExhaust new s)
    _ = (afterFlux new s).flux := flux_of_exceptPot (exceptPot_afterPot new s)

theorem pot_changeLine : (changeLine new cause s).pot = (afterPot new s).pot := by
  obtain ⟨_, _, _, _, _, _, h⟩ := changeLine_exceptLines new cause s
  rw [h]
  show (afterExhaust new s).pot = _
  exact pot_of_exceptExhaust (exceptExhaust_afterExhaust new s)

theorem exh_changeLine : (changeLine new cause s).exh = (afterExhaust new s).exh := by
  obtain ⟨_, _, _, _, _, _, h⟩ := changeLine_exceptLines new cause s
  rw [h]

theorem track_changeLine : (changeLine new cause s).trk.track = (afterPot new s).trk.track := by
  obtain ⟨_, _, _, _, _, _, h⟩ := changeLine_exceptLines new cause s
  rw [h]
  show (afterExhaust new s).trk.track = _
  exact congrArg Tracker.track (trk_of_exceptExhaust (exceptExhaust_afterExhaust new s))

theorem filt_afterExhaust : (afterExhaust new s).filt = s.filt := by
  calc (afterExhaust new s).filt
    _ = (afterPot new s).filt := filt_of_exceptExhaust (exceptExhaust_afterExhaust new s)
    _ = (afterFlux new s).filt := filt_of_exceptPot (exceptPot_afterPot new s)
    _ = (afterHeat new s).filt := filt_of_exceptFlux (exceptFlux_afterFlux new s)
    _ = s.filt := filt_of_exceptHeat (s := turned new s) (exceptHeat_afterHeat new s)

/-- Before the pot controller takes the change its block is as it was. -/
theorem pot_afterFlux : (afterFlux new s).pot = s.pot :=
  (pot_of_exceptFlux (exceptFlux_afterFlux new s)).trans (pot_of_exceptHeat (s := turned new s) (exceptHeat_afterHeat new s))

/-- Before the exhaust monitor takes the change its block is as it was. -/
theorem exh_afterPot : (afterPot new s).exh = s.exh := by
  calc (afterPot new s).exh
    _ = (afterFlux new s).exh := exh_of_exceptPot (exceptPot_afterPot new s)
    _ = (afterHeat new s).exh := exh_of_exceptFlux (exceptFlux_afterFlux new s)
    _ = s.exh := exh_of_exceptHeat (s := turned new s) (exceptHeat_afterHeat new s)

end Stages

/-! What a change leaves. -/

section Change
variable {s : State} (new : LineState) (cause : LineCause)

theorem stall_changeLine : (changeLine new cause s).trk.condStall = s.trk.condStall ∧
    (changeLine new cause s).trk.stallTimer = if new = .stopped then 0 else s.trk.stallTimer := by
  have hblocks : stillTimed (afterBlocks new s) = stillTimed (turned new s) := by
    unfold afterBlocks afterExhaust afterPot afterFlux afterHeat
    exact stillTimed_blocksOnLine _ _
  have hcond : (afterBlocks new s).trk.condStall = s.trk.condStall := (congrArg (fun t : State => t.trk.condStall) hblocks :)
  have hstate : (afterBlocks new s).line.state = new := congrArg Line.state (line_afterBlocks new s)
  rw [changeLine_frame]
  refine ⟨hcond, ?_⟩
  show (if (afterBlocks new s).line.state = .stopped then 0 else (afterBlocks new s).trk.stallTimer) = _
  rw [hstate, stallTimer_of_stillTimed hblocks]
  rfl

/-- The lamps (R135). -/
theorem lamps_eq (st : LineState) (h : Option Severity) (w : Bool) :
    (lampGreen st, lampAmber st w, lampRed st h) = lampsOf st h w := by
  cases st <;> rfl

/-- HOLD, PERMIT and the lamps of the new state (R131, R134, R135). -/
theorem lines_changeLine :
    let t := changeLine new cause s
    t.pins.hold = decide (new = .stopped) ∧ t.pins.permit = t.permitNow ∧
      (t.pins.lampG, t.pins.lampA, t.pins.lampR) = lampsOf new s.line.holding s.line.warn := by
  have hline := line_afterBlocks new s
  intro t
  have ht : t = _ := changeLine_frame new cause s
  refine ⟨?_, ?_, ?_⟩
  · rw [ht]
    show ((afterBlocks new s).line.state == .stopped) = _
    rw [hline]
    cases new <;> rfl
  · rw [ht]
    rfl
  · rw [ht]
    show (lampGreen (afterBlocks new s).line.state, lampAmber (afterBlocks new s).line.state (afterBlocks new s).line.warn,
      lampRed (afterBlocks new s).line.state (afterBlocks new s).line.holding) = _
    rw [hline]
    exact lamps_eq new s.line.holding s.line.warn

/-- Every loop stands in its derived state (R45). -/
theorem loops_changeLine (hlen : s.heat.loops.length = 5) {i : Nat} (hi : i < 5) :
    ((changeLine new cause s).loopCtx i).state = (changeLine new cause s).derivedLoopState i := by
  have hderived := states_heatOnLine (s := turned new s) hlen s.line.state hi
  have hctx : (changeLine new cause s).loopCtx i = (afterHeat new s).loopCtx i := loopCtx_congr (heat_changeLine new cause s) i
  have hK : (changeLine new cause s).K i 5 = (afterHeat new s).K i 5 :=
    K_congr ((tab_changeLine new cause s).trans (tab_afterHeat new s).symm) i 5
  have hline : (changeLine new cause s).line.state = (afterHeat new s).line.state := by
    rw [line_changeLine, line_of_exceptHeat (exceptHeat_afterHeat new s)]
    rfl
  rw [derivedLoopState_eq_stateBy, hctx, hK, hline]
  unfold afterHeat
  exact hderived

theorem eligible_changeLine : (changeLine new cause s).flux.eligible = (changeLine new cause s).sprayEligible := by
  have hline : (changeLine new cause s).line = (afterFlux new s).line := by
    rw [line_changeLine, line_of_exceptFlux (exceptFlux_afterFlux new s), line_of_exceptHeat (exceptHeat_afterHeat new s)]
    rfl
  rw [State.sprayEligible, flux_changeLine, hline]
  unfold afterFlux
  exact eligible_recomputeEligible _

theorem commands_changeLine : (changeLine new cause s).pot.pump = (changeLine new cause s).derivedPump.1 ∧
    (changeLine new cause s).pot.feederCmd = (changeLine new cause s).derivedFeeder := by
  have hcommands : (afterPot new s).pot.pump = (afterPot new s).derivedPump.1 ∧
      (afterPot new s).pot.feederCmd = (afterPot new s).derivedFeeder := by
    unfold afterPot
    exact commands_potOnLine _ _
  have hpot := pot_changeLine new cause s
  have hline : (changeLine new cause s).line = (afterPot new s).line := by rw [line_changeLine, line_afterPot]
  have hheat : (changeLine new cause s).heat = (afterPot new s).heat := by
    rw [heat_changeLine]
    exact (congrArg State.heat (exceptPot_afterPot new s) :).trans (congrArg State.heat (exceptFlux_afterFlux new s) :) |>.symm
  have htab : (changeLine new cause s).tab = (afterPot new s).tab := by rw [tab_changeLine, tab_afterPot]
  have hderived : (changeLine new cause s).derivedPump = (afterPot new s).derivedPump :=
    derivedPump_congr (by rw [hpot]) (by rw [hpot]) (by rw [hpot]) (by rw [hpot]) hline hheat htab fun g => by
      rw [State.recordOf, State.recordOf, track_changeLine]
  rw [hderived, State.derivedFeeder, hpot, hline]
  exact hcommands

/-- The run-on (R97), fan demand (R96) and the manual fan value (R98). -/
theorem exhaust_changeLine : (changeLine new cause s).exh.demand = demandBy (changeLine new cause s) ∧
    ((changeLine new cause s).exh.runOn = if fanState new = true then none
      else if new = .idle ∧ fanState s.line.state = true then (if s.L 38 = 0 then none else some 0)
      else s.exh.runOn) ∧
    (s.line.state = .service → (changeLine new cause s).exh.manualFan = none) := by
  have hsources : demandSources (afterExhaust new s) =
      { demandSources (afterPot new s) with
        runOn := runOnAfter (afterPot new s) s.line.state (afterPot new s).line.state
        manualFan := if s.line.state = .service then none else (afterPot new s).exh.manualFan
        demand := demandBy (afterExhaust new s) } := by
    unfold afterExhaust
    exact demandSources_exhaustOnLine _ _
  have hexh := exh_changeLine new cause s
  have hline : (changeLine new cause s).line = (afterExhaust new s).line := by rw [line_changeLine, line_afterExhaust]
  have hdemand : demandBy (changeLine new cause s) = demandBy (afterExhaust new s) :=
    demandBy_congr (demand := (afterExhaust new s).exh.demand) hline (by rw [demandSources, hexh]; rfl)
  have hstate : (afterPot new s).line.state = new := congrArg Line.state (line_afterPot new s)
  have hL : (afterPot new s).L 38 = s.L 38 := L_congr (tab_afterPot new s) 38
  refine ⟨?_, ?_, fun hservice => ?_⟩
  · rw [hdemand, hexh]
    exact (congrArg Exhaust.demand hsources :)
  · rw [hexh]
    refine (congrArg Exhaust.runOn hsources :).trans ?_
    show runOnAfter (afterPot new s) s.line.state (afterPot new s).line.state = _
    rw [hstate, runOnAfter_eq, hL, exh_afterPot]
  · rw [hexh]
    refine (congrArg Exhaust.manualFan hsources :).trans ?_
    exact if_pos hservice

/-- The feeder (R79): its state, the attempt a new off cause discards, the failure count. -/
theorem feeder_changeLine {off : Bool}
    (hoff : off = (new == .idle || new == .stopped || new == .service || s.pot.sensor == .fault || s.pot.sensor == .silent)) :
    ((changeLine new cause s).pot.feeder = if s.pot.jam = true then s.pot.feeder else feederBy off s.pot.feeder) ∧
    (s.pot.jam = false → off = true → s.pot.feeder = .feeding ∨ s.pot.feeder = .paused →
      (changeLine new cause s).pot.feedTimer = none ∧ (changeLine new cause s).pot.baseline = none ∧
        (changeLine new cause s).pot.feedDrive = 0 ∧ (changeLine new cause s).pot.failures = s.pot.failures) := by
  have hpot := pot_afterFlux new s
  have hcause : (afterFlux new s).feederOffCause = off := by
    have hline : (afterFlux new s).line.state = new := by
      rw [line_of_exceptFlux (exceptFlux_afterFlux new s), line_of_exceptHeat (exceptHeat_afterHeat new s)]
      rfl
    rw [State.feederOffCause, hline, hpot, hoff]
    simp only [Bool.or_assoc]
  rw [pot_changeLine]
  unfold afterPot
  refine ⟨?_, fun hjam hoff hattempt => ?_⟩
  · rw [feeder_potOnLine, hcause, hpot]
  · obtain ⟨htimer, hbaseline, hdrive⟩ := attempt_potOnLine (s := afterFlux new s) s.line.state (by rw [hpot]; exact hjam)
      (hcause.trans hoff) (by rw [hpot]; exact hattempt)
    obtain ⟨hfailures, -, -⟩ := kept_potOnLine s.line.state (afterFlux new s)
    exact ⟨htimer, hbaseline, hdrive, hfailures.trans (by rw [hpot])⟩

/-- The LINE_STATE notice as the manual writes it (R147). -/
theorem noticeLineState_eq (old new : LineState) (cause : LineCause) (c : ClockValue) :
    noticeLineState old new cause c = lineStateNotice old new cause c := by
  have hcause : lineCauseNum cause = [LineCause.directive, .settleTimer, .holdingSeverity, .lineRestart].idxOf cause := by
    cases cause <;> rfl
  unfold noticeLineState lineStateNotice notice
  rw [lineStateNum_eq_idxOf, lineStateNum_eq_idxOf, hcause, clockBytes_eq]
  simp [be_one, broadcast, kindNotice]

theorem changeLine_eq_normalOffered : changeLine new cause s =
    normalOffered (lineStateNotice s.line.state new cause s.line.clock) (afterLines new s) := by
  rw [changeLine_eq_offer, offerUpNormal_eq_normalOffered, noticeLineState_eq]

/-- The blocks offer nothing on UP (R130). -/
theorem upSide_afterLines (hlen : s.heat.loops.length = 5) : upSide (afterLines new s) = upSide s := by
  have hheat : upSide (afterHeat new s) = upSide s := by
    unfold afterHeat
    exact upSide_heatOnLine (s := turned new s) hlen _
  have hflux : upSide (afterFlux new s) = upSide (afterHeat new s) := by
    unfold afterFlux
    exact upSide_recomputeEligible _
  have hpot : upSide (afterPot new s) = upSide (afterFlux new s) := by
    unfold afterPot
    exact upSide_potOnLine _ _
  have hexhaust : upSide (afterExhaust new s) = upSide (afterPot new s) := by
    unfold afterExhaust
    exact upSide_deriveDemand _
  have hfilter : upSide (afterBlocks new s) = upSide (afterExhaust new s) := by
    unfold afterBlocks
    exact upSide_filterOnLine _ _
  calc upSide (afterLines new s)
    _ = upSide (afterBlocks new s) := rfl
    _ = upSide s := by rw [hfilter, hexhaust, hpot, hflux, hheat]

/-- The notice goes to the UP queue as the state before the change would offer it (R147, R152). -/
theorem upSide_changeLine (hlen : s.heat.loops.length = 5) : upSide (changeLine new cause s) =
    upSide (normalOffered (lineStateNotice s.line.state new cause s.line.clock) s) := by
  rw [changeLine_eq_normalOffered]
  exact upSide_normalOffered (upSide_afterLines new hlen) _

/-- A full UP queue loses the notice with LINK_OVERRUN (R152). -/
theorem events_changeLine (hlen : s.heat.loops.length = 5) (hlink : s.net.upLink = true) (hfull : 16 ≤ s.upNormalOccupancy) :
    (changeLine new cause s).events.getLast? = some (.raise .linkOverrun 0 none) := by
  have hside := upSide_afterLines new hlen
  have hlink' : (afterLines new s).net.upLink = true := (congrArg Net.upLink hside).trans hlink
  have hfull' : Config.upNormalCapacity ≤ (afterLines new s).upNormalOccupancy := by
    have hnormal : (afterLines new s).net.upNormal = s.net.upNormal := (congrArg Net.upNormal hside :)
    have hreserved : (afterLines new s).net.reserved = s.net.reserved := (congrArg Net.reserved hside :)
    rw [State.upNormalOccupancy, hnormal, hreserved]
    exact hfull
  rw [changeLine_eq_offer, State.offerUpNormal, hlink', if_pos hfull']
  exact List.getLast?_concat

/-- Leaving SERVICE ends every manual value and every mark, each marked and bound function getting its urgent zero (R59, R92, R98,
R168). -/
theorem unmanned_changeLine (hlen : s.heat.loops.length = 5) (hservice : s.line.state = .service) :
    let t := changeLine new cause s
    (∀ i, i < 5 → (t.loopCtx i).manual = none) ∧ t.pot.manualPump = none ∧ t.pot.manualFeeder = none ∧
      t.filt.marks = List.replicate 8 false ∧
      ∀ f, s.marked f = true → (s.outputRow f).bound = true → ZeroOffered (outputOf s f 0) f t := by
  intro t
  obtain ⟨-, hpump, hfeeder⟩ := kept_potOnLine s.line.state (afterFlux new s)
  have hpot : t.pot = (potOnLine s.line.state (afterFlux new s)).pot := by
    rw [pot_changeLine]
    unfold afterPot
    rfl
  refine ⟨fun i _ => ?_, ?_, ?_, ?_, fun f hmarked hbound => ?_⟩
  · rw [loopCtx_congr (heat_changeLine new cause s)]
    unfold afterHeat
    rw [hservice]
    exact manuals_heatOnLine (s := turned new s) hlen i
  · rw [hpot, hpump, if_pos hservice]
  · rw [hpot, hfeeder, if_pos hservice]
  · have hmarks : (afterBlocks new s).filt.marks = List.replicate 8 false := by
      rw [afterBlocks_frame]
      exact if_pos hservice
    rw [show t = changeLine new cause s from rfl, changeLine_frame]
    exact hmarks
  · have hzero : ZeroOffered ((afterExhaust new s).outputRun f 0) f (afterBlocks new s) := by
      unfold afterBlocks
      rw [hservice]
      refine zeroOffered_filterOnLine ?_ ?_
      · rw [State.marked, filt_afterExhaust]
        exact hmarked
      · rw [State.outputRow, tab_afterExhaust]
        exact hbound
    have haddress : (afterExhaust new s).net.address = s.net.address := by
      have hside : upSide (afterBlocks new s) = upSide (afterExhaust new s) := by
        unfold afterBlocks
        exact upSide_filterOnLine _ _
      exact (congrArg Net.address (hside.symm.trans (upSide_afterLines new hlen)) :)
    have hrun : (afterExhaust new s).outputRun f 0 = outputOf s f 0 := by
      rw [State.outputRun, State.outputRow, tab_afterExhaust, haddress]
      rfl
    rw [hrun] at hzero
    rw [show t = _ from changeLine_eq_offer new cause s]
    exact ZeroOffered.offerUpNormal (s := afterLines new s) hzero _

end Change

/-! The settle condition (R128) and the holding severity (R129). -/

theorem enterLine_of_ne {new : LineState} (h : new ≠ .warmup) (cause : LineCause) (s : State) :
    enterLine new cause s = changeLine new cause s := if_neg h

/-- A retest of the settle condition (R128). -/
theorem retestSettle_eq_settleRetested (s : State) : retestSettle s = settleRetested s := by
  have hsettle : s.settleMs = 0 ↔ s.L 24 = 0 := by
    rw [State.settleMs]
    omega
  unfold retestSettle settleRetested settleTest
  rw [settleHolds_eq_settleCondition]
  simp only [hsettle]
  by_cases hline : s.line.state = .warmup
  · rw [if_pos hline, if_neg (not_not_intro hline)]
  · rw [if_neg hline, if_pos hline]

/-- Entry into WARMUP tests the settle condition (R128). -/
theorem enterLine_eq (new : LineState) (cause : LineCause) (s : State) : enterLine new cause s =
    if new = .warmup then settleRetested (changeLine new cause s) else changeLine new cause s := by
  by_cases hnew : new = .warmup
  · have hline : (changeLine new cause s).line.state = .warmup := by rw [line_changeLine, hnew]
    rw [if_pos hnew, ← retestSettle_eq_settleRetested, retestSettle, if_pos hline]
    exact if_pos hnew
  · rw [if_neg hnew, enterLine_of_ne hnew]

/-- The settle timer's expiry (R128). -/
theorem exec_settleTimerExpiry (s : State) :
    (settleCondition s = true → exec .settleTimerExpiry s = .next (settle (changeLine .ready .settleTimer s))) ∧
      (settleCondition s = false → exec .settleTimerExpiry s = .next s) := by
  have hexec : exec .settleTimerExpiry s = .next (if settleCondition s then settle (settleExpire s) else s) := by
    rw [← settleHolds_eq_settleCondition]
    rfl
  have hready : settleExpire s = changeLine .ready .settleTimer s := enterLine_of_ne (by decide) _ s
  rw [hexec, hready]
  exact ⟨fun h => by rw [if_pos h], fun h => by rw [if_neg (by rw [h]; decide)]⟩

/-- A STOP acts outside IDLE and STOPPED (R129). -/
theorem stopsLine_iff (st : LineState) : stopsLine st = true ↔ ¬ (st = .idle ∨ st = .stopped) := by
  cases st <;> decide

/-- What the line does at a published holding severity (R129). -/
theorem actOnSeverity_eq (h : Option Severity) (s : State) : actOnSeverity h s =
    match h with
    | some .stop => if s.line.state = .idle ∨ s.line.state = .stopped then s else changeLine .stopped .holdingSeverity s
    | some .drain => if s.line.state = .ready then changeLine .drain .holdingSeverity s else settleRetested s
    | some .warn | some .note | none => settleRetested s := by
  have hstop : enterLine .stopped .holdingSeverity s = changeLine .stopped .holdingSeverity s := enterLine_of_ne (by decide) _ s
  have hdrain : enterLine .drain .holdingSeverity s = changeLine .drain .holdingSeverity s := enterLine_of_ne (by decide) _ s
  match h with
  | some .stop =>
    show (if stopsLine s.line.state then _ else _) = if _ then _ else _
    by_cases hidle : s.line.state = .idle ∨ s.line.state = .stopped
    · rw [if_pos hidle, if_neg fun hacts => (stopsLine_iff _).1 hacts hidle]
    · rw [if_neg hidle, if_pos ((stopsLine_iff _).2 hidle), hstop]
  | some .drain =>
    show (if _ then _ else _) = if _ then _ else _
    rw [hdrain, retestSettle_eq_settleRetested]
  | some .warn | some .note | none => exact retestSettle_eq_settleRetested s

/-- A publication is stored, moves the lamps, and acts by R129. -/
theorem takePublished_eq (h : Option Severity) (w : Bool) (s : State) : takePublished h w s =
    actOnSeverity h { s with
      line.holding := h, line.warn := w, pins.lampG := (lampsOf s.line.state h w).1
      pins.lampA := (lampsOf s.line.state h w).2.1, pins.lampR := (lampsOf s.line.state h w).2.2 } := by
  rw [← lamps_eq]
  rfl

/-- Settles O19: the tests of the settle condition, the table of R129, and a change of the line state block by block. -/
theorem Settled.lineStateChange : Obligations.LineStateChange := by
  unfold Obligations.LineStateChange
  refine ⟨exec_settleTimerExpiry, fun i s => ?_, enterLine_eq, fun h w s => ?_, fun new cause s hlen => ?_⟩
  · have hretest := retestSettle_eq_settleRetested
    refine ⟨hretest s, hretest (derivePump s), ?_, rfl⟩
    rw [← hretest]
    rfl
  · refine (takePublished_eq h w s).trans ((actOnSeverity_eq h _).trans ?_)
    rcases h with _ | (_ | _ | _ | _) <;> rfl
  · intro t off notice
    obtain ⟨hcondStall, hstallTimer⟩ := stall_changeLine (s := s) new cause
    obtain ⟨hhold, hpermit, hlamps⟩ := lines_changeLine (s := s) new cause
    obtain ⟨hpump, hfeederCmd⟩ := commands_changeLine (s := s) new cause
    obtain ⟨hdemand, hrunOn, hfan⟩ := exhaust_changeLine (s := s) new cause
    obtain ⟨hfeeder, hattempt⟩ := feeder_changeLine (s := s) new cause (off := off) rfl
    have hline := line_changeLine new cause s
    have hldr : t.ldr = s.ldr := (congrArg State.ldr (leavesStill_changeLine new cause s).still :)
    have hside := upSide_changeLine new cause hlen
    refine ⟨congrArg Line.state hline, congrArg Line.settle hline, hcondStall, hstallTimer, hhold, hpermit, hlamps,
      fun i hi => loops_changeLine new cause hlen hi, eligible_changeLine new cause, hdemand, hpump, hfeederCmd,
      tab_changeLine new cause s, hldr, hrunOn, hfeeder.trans ?_, hattempt, (congrArg Net.upNormal hside :),
      (congrArg Net.upTx hside :), events_changeLine new cause hlen, fun hservice => ?_⟩
    · cases s.pot.feeder <;> rfl
    · obtain ⟨hmanual, hmanualPump, hmanualFeeder, hmarks, hzeros⟩ := unmanned_changeLine new cause hlen hservice
      exact ⟨hmanual, hmanualPump, hmanualFeeder, hfan hservice, hmarks, hzeros⟩

end Sys2Proof.Proofs
end

section
/-! SUPPORT. The heater computation (R65 to R72), stage by stage: what each stage is, and what it keeps. -/
namespace Sys2Proof.Proofs
open Sys2Proof Sys2Proof.Machine

/-! Stage 1, the ramp. -/

section Ramp
variable {k3 dt target step remainder : Nat} {setpoint : Int}

/-- From below the target the setpoint neither falls nor passes the target (R67). -/
theorem moveToward_of_le (h : setpoint ≤ target) :
    setpoint ≤ moveToward setpoint target step ∧ moveToward setpoint target step ≤ target := by
  rw [moveToward, if_pos h]
  omega

/-- From above the target the setpoint neither rises nor passes the target (R67). -/
theorem moveToward_of_ge (h : target ≤ setpoint) :
    target ≤ moveToward setpoint target step ∧ moveToward setpoint target step ≤ setpoint := by
  unfold moveToward
  split <;> omega

/-- With K3 = 0 the setpoint is the target at once; else it moves by the step (R66, R67). -/
theorem rampStage_setpoint : (rampStage k3 dt target setpoint remainder).1 =
    if k3 = 0 then (target : Int) else moveToward setpoint target ((remainder + k3 * dt) / 1000) := by
  unfold rampStage
  split <;> rfl

/-- The remainder is lost at the target, and with K3 = 0, which is the target too (R66, R67). -/
theorem rampStage_remainder : (rampStage k3 dt target setpoint remainder).2 =
    if (rampStage k3 dt target setpoint remainder).1 = target then 0 else (remainder + k3 * dt) % 1000 := by
  unfold rampStage
  split <;> simp

theorem rampStage_setpoint_of_le (h : setpoint ≤ target) :
    setpoint ≤ (rampStage k3 dt target setpoint remainder).1 ∧ (rampStage k3 dt target setpoint remainder).1 ≤ target := by
  rw [rampStage_setpoint]
  split
  · exact ⟨h, le_rfl⟩
  · exact moveToward_of_le h

theorem rampStage_setpoint_of_ge (h : target ≤ setpoint) :
    target ≤ (rampStage k3 dt target setpoint remainder).1 ∧ (rampStage k3 dt target setpoint remainder).1 ≤ setpoint := by
  rw [rampStage_setpoint]
  split
  · exact ⟨le_rfl, h⟩
  · exact moveToward_of_ge h

theorem rampStage_remainder_lt : (rampStage k3 dt target setpoint remainder).2 < 1000 := by
  rw [rampStage_remainder]
  split
  · decide
  · exact Nat.mod_lt _ (by decide)

end Ramp

/-! Stages 2 and 4, the error and the integrator. -/

theorem errorStage_eq (setpoint temp : Int) : errorStage setpoint temp = max (-2000) (min 2000 (setpoint - temp)) := rfl

/-- The three conditions of R70. -/
theorem integrates_iff {dt : Nat} {e : Int} {high low : Bool} :
    integrates dt e high low = true ↔ 0 < dt ∧ ¬(0 < e ∧ high = true) ∧ ¬(e < 0 ∧ low = true) := by
  simp [integrates, and_assoc, imp_iff_not_or]

/-- The integrator, increased where R70 allows it and clamped (R71). -/
theorem integralStage_eq (k1 k2 dt : Nat) (e : Int) (high low : Bool) (integrator : Nat) :
    integralStage k1 k2 dt e high low integrator =
      if 0 < dt ∧ ¬(0 < e ∧ high = true) ∧ ¬(e < 0 ∧ low = true) then
        (max 0 (min ((k2 * 256 : Nat) : Int) (integrator + Int.tdiv (k1 * e * dt) 1000))).toNat
      else integrator := by
  unfold integralStage
  simp only [integrates_iff]
  rfl

/-! Stage 5, the output. -/

section Output
variable {k2 : Nat} {u : Int}

/-- Below 0 the duty is 0 and saturated low (R72). -/
theorem outputStage_of_neg (h : u < 0) : outputStage k2 u = (0, false, true) := if_pos h

/-- From 0 up the duty is the sum rounded half up, or K2 saturated high (R72). -/
theorem outputStage_of_nonneg (h : 0 ≤ u) : outputStage k2 u =
    if ((u + 128) / 256).toNat ≤ k2 then (((u + 128) / 256).toNat, false, false) else (k2, true, false) := by
  have hround : (u.toNat + 128) / 256 = ((u + 128) / 256).toNat := by omega
  rw [outputStage, if_neg (not_lt.2 h), hround]

/-- The table of R72 by columns: duty, high flag, low flag. -/
theorem outputStage_eq : outputStage k2 u =
    (if u < 0 then 0 else if ((u + 128) / 256).toNat ≤ k2 then ((u + 128) / 256).toNat else k2,
      decide (0 ≤ u ∧ k2 < ((u + 128) / 256).toNat), decide (u < 0)) := by
  rcases lt_or_ge u 0 with hneg | hnonneg
  · simp [outputStage_of_neg hneg, hneg]
  · rw [outputStage_of_nonneg hnonneg]
    generalize ((u + 128) / 256).toNat = d
    rcases le_or_gt d k2 with hfits | hover
    · simp [hfits, hnonneg]
    · simp [hover, not_le.2 hover, hnonneg]

/-- The two saturation flags exclude each other (R72). -/
theorem not_saturated_both : ¬((outputStage k2 u).2.1 = true ∧ (outputStage k2 u).2.2 = true) := by
  rw [outputStage_eq]
  simp only [decide_eq_true_eq]
  omega

end Output

/-! The computation whole. -/

/-- Settles O13: each stage by its equation. -/
theorem computationStages : Obligations.ComputationStages := by
  unfold Obligations.ComputationStages
  intro k0 k1 k2 k3 now T c dt acc step sp rem e P I U d
  have hdt : elapsed now c.lastComp = dt := rfl
  have hsp : (rampStage k3 dt c.target c.setpoint c.remainder).1 = sp := rampStage_setpoint
  have hrem : (rampStage k3 dt c.target c.setpoint c.remainder).2 = rem := by
    have hmod : acc % 1000 = acc - 1000 * step := by omega
    have hreached : k3 = 0 ∨ sp = c.target ↔ sp = c.target := or_iff_right_of_imp fun hk => if_pos hk
    rw [rampStage_remainder, hsp]
    simp only [rem, hreached, ← hmod, acc]
  have he : errorStage sp T = e := errorStage_eq sp T
  have hI : integralStage k1 k2 dt e c.satHigh c.satLow c.integrator = I := integralStage_eq ..
  have hU : proportional k0 e + I = U := rfl
  unfold computed
  simp only [hdt, hsp, hrem, he, hI, hU, outputStage_eq, d]

/-- Settles O14: the limits are those of the stages. -/
theorem computationBounds : Obligations.ComputationBounds := by
  unfold Obligations.ComputationBounds
  intro k0 k1 k2 k3 now T c hlimit t
  obtain ⟨hduty, hinteg⟩ := computed_bounds k0 k1 k2 k3 now T hlimit
  exact ⟨hinteg, hduty, not_saturated_both, rampStage_setpoint_of_le, rampStage_setpoint_of_ge,
    fun _ => rampStage_remainder_lt, fun hreached => rampStage_remainder.trans (if_pos hreached)⟩

end Sys2Proof.Proofs
end

section
/-! SUPPORT. Every step, put together once for any property: from the parts of the commands and expiries that a property survives,
through requests, telegrams and the internal events, to the step (R142 to R154, R170 to R173; log entries 1 to 4). -/
namespace Sys2Proof.Proofs
open Sys2Proof Sys2Proof.Machine Sys2Proof.Safety

/-! Internal events, and the directives that take some of them in between. -/

section Between
variable {P : State → Prop}

/-- A property that taking the event at the head keeps is kept by taking all. -/
theorem settle_keeps_of_head (hhandle : ∀ {s e rest}, s.events = e :: rest → P s → P (handle e { s with events := rest }))
    {s : State} (hs : P s) : P (settle s) := by
  unfold settle
  induction Config.cascadeFuel generalizing s with
  | zero => exact hs
  | succ n ih =>
    cases hev : s.events with
    | nil =>
      rw [drain_quiet _ hev]
      exact hs
    | cons e rest =>
      rw [drain_succ n e rest hev]
      exact ih (hhandle hev hs)

/-- WRITE RUN: the written cells with their events (R179, R180). -/
theorem writeRun_keeps (hsettle : ∀ {s}, P s → P (settle s)) (hldr : ∀ {s} (l : Loader), P s → P { s with ldr := l })
    (hcell : ∀ {s} (table row col : Nat) (v : Int), P s → P (writeCell table row col v s))
    (entry src : Nat) (more : Bool) (bytes : List Byte) {s : State} (hs : P s) : P (writeRun entry src more bytes s).2.2 := by
  have hvalues (held : Bool) (ws : List Nat) (n : Nat) (clamped : Bool) : P (writeValues entry held ws n clamped s).2.2 := by
    induction ws generalizing n clamped s with
    | nil => exact hs
    | cons w ws ih =>
      unfold writeValues
      split
      · exact hs
      · dsimp only
        split
        · exact hs
        · exact ih (hldr _ (hsettle (hcell _ _ _ _ hs))) _ _
  unfold writeRun
  split
  · exact hs
  · exact hs
  · split
    · exact hs
    · exact hldr _ (hvalues _ _ _ _)

/-- ACKNOWLEDGE ALL: each record with its events (R122). -/
theorem acknowledgeAll_keeps (hsettle : ∀ {s}, P s → P (settle s))
    (hrecord : ∀ {s} (k : AlarmKind) (n : Nat), P s → P (alarmAcknowledge k n s))
    (hlistFull : ∀ {s}, P s → P (acknowledgeListFull s)) {s : State} (hs : P s) : P (acknowledgeAll s).2 := by
  have hall (l : List AlarmRecord) {u : State} (hu : P u) :
      P (l.foldl (fun t r => settle (alarmAcknowledge r.kind r.source t)) u) := by
    induction l generalizing u with
    | nil => exact hu
    | cons r l ih => exact ih (hsettle (hrecord _ _ hu))
  unfold acknowledgeAll
  split
  · exact hs
  · exact hlistFull (hall _ hs)

/-- SET STATE enters a line state or leaves all as it is (R126). -/
theorem setState_keeps {s : State} (henter : ∀ new, P (enterLine new .directive s)) (hs : P s) (entry src operand : Nat) :
    P (setState entry src operand s).2.2 := by
  unfold setState
  split
  · unfold setIdle
    split
    · exact hs
    · split
      · exact hs
      · exact henter .idle
  · unfold setWarmup
    split
    · exact hs
    · split
      · exact hs
      · exact henter .warmup
    all_goals exact hs
  · unfold setDrain
    split
    · exact henter .drain
    all_goals exact hs
  · unfold setResume
    split
    · exact henter .warmup
    · exact hs
  · split
    · unfold setService
      split
      · exact hs
      · split
        · exact henter .service
        · exact hs
    · exact hs
  · exact hs

/-- MANUAL OUTPUT: the owner of the function takes the value, or leaves all as it is (R136). -/
theorem manualOutput_keeps {s : State} (hheater : ∀ i v, P (manualHeater i v s).2) (hpump : ∀ v, P (manualPumpOutput v s))
    (hfeeder : ∀ v, P (manualFeederOutput v s)) (hfan : ∀ v, P (manualFanOutput v s)) (hs : P s) (function v : Nat) :
    P (manualOutput function v s).2 := by
  have hdrive (f : OutFn) {apply : State → State} (happly : P (apply s)) : P (manualDrive f v apply s).2 := by
    unfold manualDrive
    split
    · exact hs
    · exact happly
  unfold manualOutput
  split
  · exact hheater 0 v
  · exact hheater 1 v
  · exact hheater 2 v
  · exact hheater 3 v
  · exact hheater 4 v
  · exact hdrive _ (hpump v)
  · exact hdrive _ (hfeeder v)
  · exact hdrive _ (hfan v)
  · exact hs

end Between

/-! The parts of a step. -/

/-- A property that holds after a device reset and survives the parts the steps are made of. An expiry is asked for only where its
timer can expire (log entry 2). -/
structure KeptByParts (P : State → Prop) : Prop where
  pending : ∀ {s} (cs : List Instr), P s → P { s with pending := cs }
  reset : ∀ a b eye straps s, P (deviceReset a b eye straps s)
  handle : ∀ {s e rest}, s.events = e :: rest → P s → P (handle e { s with events := rest })
  net : ∀ {s} (n : Net), P s → P { s with net := n }
  raise : ∀ {s} (k : AlarmKind) (n : Nat) (v : Option Int), P s → P (s.raise k n v)
  clear : ∀ {s} (k : AlarmKind) (n : Nat), P s → P (s.clear k n)
  marks : ∀ {s} (fs : List OutFn), P s → P (markManual fs s)
  sample : ∀ {s} (src status : Nat) (pairs : List (Nat × Int)), P s → P (takeSample src status pairs s)
  directive : ∀ {s} (entry src : Nat) (first : Bool) (d : Directive), P s → P (directive entry src first d s).state
  count : ∀ {s}, P s → P (countAll s)
  encoder : ∀ {s} (a b : Bool), P s → P (encoderLevels a b s)
  eye : ∀ {s} (blocked : Bool), P s → P (eyeLevel blocked s)
  speed : ∀ {s}, P s → P (measureSpeed s)
  stall : ∀ {s}, s.stallArmed = true → P s → P (stallExpire s)
  idle : ∀ {s} (i : Nat), P s → P (idleExpire i s)
  heatFail : ∀ {s} (i : Nat), P s → P (heatFailExpire i s)
  feed : ∀ {s}, s.feedRuns = true → P s → P (feedExpire s)
  potRefresh : ∀ {s}, P s → P (potRefresh s)
  flow : ∀ {s}, s.flowCounts = true → P s → P (flowExpire s)
  runOn : ∀ {s}, P s → P (runOnExpire s)
  exhaustRefresh : ∀ {s}, P s → P (exhaustRefresh s)
  settled : ∀ {s}, s.settleHolds = true → P s → P (settleExpire s)
  second : ∀ {s}, P s → P (secondExpire s)
  age : ∀ {s} (e : Nat), P s → P (ageExpire e s)

namespace KeptByParts
variable {P : State → Prop} {s : State} (h : KeptByParts P)
include h

/-! Offers and links. -/

theorem settle (hs : P s) : P (settle s) := settle_keeps_of_head h.handle hs

theorem wakeUp (hs : P s) : P s.wakeUp := by
  rw [State.wakeUp_frame]
  exact h.net _ hs

theorem wakeDown (hs : P s) : P s.wakeDown := by
  rw [State.wakeDown_frame]
  exact h.net _ hs

theorem offerUpNormal (t : Telegram) (hs : P s) : P (s.offerUpNormal t) := by
  unfold State.offerUpNormal
  split
  · exact hs
  · split
    · exact h.raise _ _ _ hs
    · exact h.wakeUp (h.net _ hs)

theorem forward (p : Port) (run : List Byte) (hs : P s) : P (s.forward p run) := by
  cases p with
  | up =>
    unfold State.forward
    dsimp only
    split
    · exact h.raise _ _ _ hs
    · exact h.wakeDown (h.net _ hs)
  | down =>
    unfold State.forward
    dsimp only
    split
    · exact h.raise _ _ _ hs
    · exact h.wakeUp (h.net _ hs)

theorem linkHeard (p : Port) (hs : P s) : P (linkHeard p s) := by
  cases p <;>
  · unfold Machine.linkHeard
    dsimp only
    split
    · exact h.net _ hs
    · exact h.clear _ _ (h.net _ hs)

theorem linkLost (p : Port) (hs : P s) : P (linkLost p s) := by
  cases p <;> exact h.raise _ _ _ (h.net _ hs)

theorem badTelegram (p : Port) (hs : P s) : P (badTelegram p s) := by
  cases p <;> exact h.net _ hs

theorem boundary (p : Port) (hs : P s) : P (boundary p s) := by
  cases p with
  | up => exact h.wakeUp (h.net { s.net with upTx := none } hs)
  | down => exact h.wakeDown (h.net { s.net with downTx := none } hs)

/-! Requests and telegrams. -/

theorem takeItem (entry src : Nat) (first : Bool) (used after : Nat) (d : Directive) (hs : P s) :
    P (takeItem entry src first used after d s).state := by
  unfold Machine.takeItem
  split
  · exact h.settle (h.directive _ _ _ _ hs)
  · exact hs

theorem runItems (entry src : Nat) (items : List Item) (first stopped : Bool) (acc : List (List Byte)) (hs : P s) :
    P (runItems entry src items first stopped acc s).2 := by
  induction items generalizing first stopped acc s with
  | nil => exact hs
  | cons item rest ih =>
    unfold Machine.runItems
    split
    · exact ih _ _ _ hs
    · split
      · exact ih _ _ _ hs
      · exact ih _ _ _ hs
      · exact ih _ _ _ (h.takeItem _ _ _ _ _ _ hs)

theorem requestArrives (src : Nat) (seq : Byte) (items : List Item) (hs : P s) : P (requestArrives src seq items s) := by
  unfold Machine.requestArrives
  split
  · have hlist : P (runList src items { s with net.reserved := some s.net.upNormal.length }).2 := by
      unfold runList
      split
      · exact h.net _ hs
      · exact h.runItems _ _ _ _ _ _ (h.net _ hs)
    exact h.wakeUp (h.net (s := { (runList src items _).2 with net.addressOpen := false }) _ (h.net _ hlist))
  · exact h.raise _ _ _ hs

theorem receiveDirective (r : Requester) (d : Directive) (hs : P s) : P (receiveDirective r d s) := by
  unfold Machine.receiveDirective
  split
  · exact h.badTelegram _ hs
  · have heard : P (Machine.settle (Machine.linkHeard .up s)) := h.settle (h.linkHeard _ hs)
    dsimp only
    split
    · exact heard
    · exact h.requestArrives _ _ _ heard

theorem takeOutput (t : Received) (pairs : List (Nat × Nat)) (hs : P s) : P (takeOutput t pairs s) := by
  unfold Machine.takeOutput
  split
  · exact h.forward _ _ hs
  · split
    · exact h.forward _ _ (h.marks _ hs)
    · exact h.offerUpNormal _ hs

theorem takeBroadcast (p : Port) (t : Received) (status : Nat) (pairs : List (Nat × Int)) (hs : P s) :
    P (takeBroadcast p t status pairs s) := by
  have htaken : P (Machine.settle (takeSample t.source status pairs s)) := h.settle (h.sample _ _ _ hs)
  unfold Machine.takeBroadcast
  dsimp only
  split
  · exact htaken
  · exact h.forward _ _ htaken

theorem dispose (p : Port) (t : Received) (hs : P s) : P (dispose p t s) := by
  unfold Machine.dispose
  split
  · exact hs
  · split
    · split
      · exact h.requestArrives _ _ _ hs
      · exact hs
    · split
      · split
        · exact h.takeBroadcast _ _ _ _ hs
        · exact h.forward _ _ hs
      · split
        · split
          · exact h.takeOutput _ _ hs
          · exact h.forward _ _ hs
        · exact h.forward _ _ hs

theorem receiveRun (p : Port) (run : List Byte) (hs : P s) : P (receiveRun p run s) := by
  unfold Machine.receiveRun
  split
  · exact h.badTelegram p hs
  · exact h.dispose _ _ (h.settle (h.linkHeard p hs))

/-! The millisecond and the commands. -/

/-- An expiry that is due, or armed, is taken with its events. -/
theorem whenDue {due : Bool} {f : State → State} (hf : due = true → P s → P (f s)) (hs : P s) : P (whenDue due f s) := by
  unfold Machine.whenDue
  split
  · next hdue => exact h.settle (hf hdue hs)
  · exact hs

theorem whenDueEach (n : Nat) (due : State → Nat → Bool) {f : Nat → State → State} (hf : ∀ {u} i, P u → P (f i u)) (hs : P s) :
    P (whenDueEach n due f s) := by
  unfold Machine.whenDueEach
  induction List.range n generalizing s with
  | nil => exact hs
  | cons i is ih => exact ih (h.whenDue (fun _ => hf i) hs)

theorem expireFirst (hs : P s) : P (expireFirst s) := by
  unfold Machine.expireFirst
  refine h.whenDue (fun _ => h.potRefresh) ?_
  refine h.whenDue (fun hdue => h.feed (Bool.and_eq_true_iff.mp hdue).1) ?_
  refine h.whenDueEach _ _ h.heatFail ?_
  refine h.whenDueEach _ _ h.idle ?_
  refine h.whenDue (fun hdue => h.stall (Bool.and_eq_true_iff.mp hdue).1) ?_
  exact h.whenDue (fun _ => h.speed) hs

theorem expireRest (hs : P s) : P (expireRest s) := by
  unfold Machine.expireRest
  refine h.whenDueEach _ _ h.age ?_
  refine h.whenDue (fun _ => h.linkLost .down) ?_
  refine h.whenDue (fun _ => h.linkLost .up) ?_
  refine h.whenDue (fun _ => h.second) ?_
  refine h.whenDue (fun hdue => h.settled (Bool.and_eq_true_iff.mp hdue).1) ?_
  refine h.whenDue (fun _ => h.exhaustRefresh) ?_
  refine h.whenDue (fun _ => h.runOn) ?_
  exact h.whenDue (fun hdue => h.flow (Bool.and_eq_true_iff.mp hdue).1) hs

theorem exec (c : Instr) {t : State} (hs : P s) (hc : exec c s = .next t) : P t := by
  have request (r : Requester) (d : Directive) : P (Machine.settle (Machine.receiveDirective r d s)) :=
    h.settle (h.receiveDirective r d hs)
  cases c with
  | deviceReset a b eye straps => cases hc; exact h.reset _ _ _ _ _
  | encoderTransition a b => cases hc; exact h.settle (h.encoder a b hs)
  | eyeChange blocked => cases hc; exact h.settle (h.eye blocked hs)
  | speedMeasurement => cases hc; exact h.settle (h.speed hs)
  | conveyorStall => cases hc; exact h.whenDue h.stall hs
  | idleTimerExpiry zone => cases hc; exact h.whenDue (fun _ => h.idle _) hs
  | heatFail loop => cases hc; exact h.whenDue (fun _ => h.heatFail _) hs
  | feedTimerExpiry => cases hc; exact h.whenDue h.feed hs
  | potRefreshTimerExpiry => cases hc; exact h.settle (h.potRefresh hs)
  | flowLowTimerExpiry => cases hc; exact h.whenDue h.flow hs
  | runOnTimerExpiry => cases hc; exact h.whenDue (fun _ => h.runOn) hs
  | exhaustRefreshTimerExpiry => cases hc; exact h.settle (h.exhaustRefresh hs)
  | settleTimerExpiry => cases hc; exact h.whenDue h.settled hs
  | secondTimerExpiry => cases hc; exact h.settle (h.second hs)
  | linkDown p => cases hc; exact h.whenDue (fun _ => h.linkLost p) hs
  | linkUp p => cases hc; exact h.settle (h.linkHeard p hs)
  | telegramReceived p run => cases hc; exact h.settle (h.receiveRun p run hs)
  | ageTimerExpiry e => cases hc; exact h.whenDue (fun _ => h.age _) hs
  | telegramBoundary p => cases hc; exact h.settle (h.boundary p hs)
  | idleFillReception p => cases hc; exact h.settle (h.linkHeard p hs)
  | _ => cases hc; exact request _ _

/-- A command keeps such a property, and so does the millisecond of an empty queue. -/
theorem step {t : State} (hs : P s) (hstep : step s = .next t) : P t := by
  unfold Machine.step at hstep
  split at hstep
  · rw [← Host.Outcome.next.inj hstep]
    exact h.expireRest (h.expireFirst (h.count hs))
  · next c rest _ => exact h.exec c (h.pending rest hs) hstep

end KeptByParts

end Sys2Proof.Proofs
end

section
/-! SUPPORT. What the pot controller's interlocks read (R79, R84, R87), and what leaves it alone. -/
namespace Sys2Proof.Proofs
open Sys2Proof Sys2Proof.Machine Sys2Proof.Safety

/-! What the interlocks read. -/

/-- The part of the pot controller that its interlocks are about. -/
def potCore (p : Pot) : Pot :=
  { condCritical := p.condCritical, criticalRecord := p.criticalRecord, sensor := p.sensor, feeder := p.feeder, jam := p.jam
    feedDrive := p.feedDrive, gateBoard := p.gateBoard, pump := p.pump }

/-- What the interlocks read: the pot controller, the line state, the pot-molten flag, and whether the report of a change of that
flag waits. -/
def potSeen (s : State) : Pot × LineState × Bool × Bool :=
  (potCore s.pot, s.line.state, s.heat.potMolten, decide (.potMoltenChanged ∈ s.events))

/-! Updates it does not see. -/

@[simp] theorem potSeen_update (s : State) (time : Time) (trk : Tracker) (flux : Flux) (exh : Exhaust) (alm : Alarm) (net : Net)
    (filt : Filter) (ldr : Loader) (tab : Tables) (pins : Pins) (pending : List Instr) :
    potSeen { s with time, trk, flux, exh, alm, net, filt, ldr, tab, pins, pending } = potSeen s := rfl
@[simp] theorem potSeen_ite (c : Prop) [Decidable c] (s t : State) :
    potSeen (if c then s else t) = if c then potSeen s else potSeen t := apply_ite _ _ _ _
/-- Every report but that of a change of the pot-molten flag. -/
@[simp] theorem potSeen_post (s : State) {e : Event} (h : .potMoltenChanged ≠ e) : potSeen (s.post e) = potSeen s := by
  simp [potSeen, h]
@[simp] theorem potSeen_raise (s : State) (k : AlarmKind) (n : Nat) (v : Option Int) : potSeen (s.raise k n v) = potSeen s :=
  potSeen_post s nofun
@[simp] theorem potSeen_clear (s : State) (k : AlarmKind) (n : Nat) : potSeen (s.clear k n) = potSeen s :=
  potSeen_post s nofun
@[simp] theorem potSeen_clearIf (s : State) (b : Bool) (k : AlarmKind) (n : Nat) : potSeen (s.clearIf b k n) = potSeen s := by
  simp [State.clearIf]

theorem potSeen_foldl {α : Type} {f : State → α → State} (h : ∀ s a, potSeen (f s a) = potSeen s) (l : List α) (s : State) :
    potSeen (l.foldl f s) = potSeen s := by
  induction l generalizing s with
  | nil => rfl
  | cons a l ih => exact (ih _).trans (h s a)

@[simp] theorem potSeen_wakeUp (s : State) : potSeen s.wakeUp = potSeen s := by rw [State.wakeUp_frame]; rfl
@[simp] theorem potSeen_commandZero (s : State) (f : OutFn) : potSeen (s.commandZero f) = potSeen s := by
  rw [State.commandZero_frame]; rfl
@[simp] theorem potSeen_commandValue (s : State) (f : OutFn) (v : Nat) : potSeen (s.commandValue f v) = potSeen s := by
  rw [State.commandValue_frame]; rfl
@[simp] theorem potSeen_offerChange (s : State) (f : OutFn) (v : Nat) : potSeen (s.offerChange f v) = potSeen s := by
  rw [offerChange_frame]; rfl
@[simp] theorem potSeen_offerUpNormal (s : State) (t : Telegram) : potSeen (s.offerUpNormal t) = potSeen s := by
  simp [State.offerUpNormal]
@[simp] theorem potSeen_offerUpUrgent (s : State) (t : Telegram) : potSeen (s.offerUpUrgent t) = potSeen s := by
  simp [State.offerUpUrgent]

/-! The flux controller. -/

@[simp] theorem potSeen_driveValve (s : State) : potSeen (driveValve s) = potSeen s := by
  simp [driveValve]
@[simp] theorem potSeen_fluxEvaluate (s : State) : potSeen (fluxEvaluate s) = potSeen s := by
  simp [fluxEvaluate, moveFluxStates, decideBridge, syncWindows]
@[simp] theorem potSeen_recomputeEligible (s : State) : potSeen (recomputeEligible s) = potSeen s := by
  simp [recomputeEligible]
@[simp] theorem potSeen_recomputeLead (s : State) : potSeen (recomputeLead s) = potSeen s := rfl
@[simp] theorem potSeen_enterLow (v : Option Int) (s : State) : potSeen (enterLow v s) = potSeen s := by
  simp [enterLow]
@[simp] theorem potSeen_pressureStatus (v : Nat) (s : State) : potSeen (pressureStatus v s) = potSeen s := by
  have hclears : potSeen { s.clearIf (s.flux.status == .low) .fluxPressureLow 0 with flux.status := .normal } = potSeen s :=
    potSeen_clearIf s _ _ _
  simp only [pressureStatus, potSeen_ite, hclears]
  simp
@[simp] theorem potSeen_pressureArrival (v : Nat) (s : State) : potSeen (pressureArrival v s) = potSeen s := by
  simp [pressureArrival]
@[simp] theorem potSeen_pressureReport (r : Report) (s : State) : potSeen (pressureReport r s) = potSeen s := by
  simp [pressureReport]
theorem potSeen_pressureDelivery (r : Option Report) (v : Option Int) (s : State) :
    potSeen (pressureDelivery r v s) = potSeen s := by
  cases r <;> cases v <;> simp [pressureDelivery]

/-! The exhaust monitor. -/

@[simp] theorem potSeen_deriveFan (s : State) : potSeen (deriveFan s) = potSeen s := by
  simp [deriveFan]
@[simp] theorem potSeen_resetFlow (s : State) : potSeen (resetFlow s) = potSeen s := by
  show potSeen ((s.clearIf s.exh.condFlowLow .fumeFlowLow 0).clearIf s.exh.condLoss .fumeLoss 0) = potSeen s
  simp
@[simp] theorem potSeen_applyFlow (s : State) : potSeen (applyFlow s) = potSeen s := by
  simp [applyFlow]
@[simp] theorem potSeen_deriveDemand (s : State) : potSeen (deriveDemand s) = potSeen s := by
  simp [deriveDemand]
/-- A report taken by the exhaust monitor, or a manual fan value (R96, R98). -/
theorem potSeen_demandReported (s : State) (exh : Exhaust) : potSeen (deriveDemand { s with exh }) = potSeen s :=
  potSeen_deriveDemand _
@[simp] theorem potSeen_exhaustOnLine (old : LineState) (s : State) : potSeen (exhaustOnLine old s) = potSeen s :=
  potSeen_deriveDemand _
@[simp] theorem potSeen_runOnExpire (s : State) : potSeen (runOnExpire s) = potSeen s := potSeen_deriveDemand _
@[simp] theorem potSeen_flowExpire (s : State) : potSeen (flowExpire s) = potSeen s := by
  unfold flowExpire
  split <;> simp
@[simp] theorem potSeen_flowLimitWritten (s : State) : potSeen (flowLimitWritten s) = potSeen s := by
  simp [flowLimitWritten]
theorem potSeen_flowDelivery (r : Option Report) (v : Option Int) (s : State) : potSeen (flowDelivery r v s) = potSeen s := by
  cases r <;> cases v <;> simp [flowDelivery, flowArrival, flowReport]
@[simp] theorem potSeen_dpArrival (v : Nat) (s : State) : potSeen (dpArrival v s) = potSeen s := by
  have hclears (u : State) : potSeen { u.clearIf s.exh.condLoaded .filterLoaded 0 with exh.condLoaded := false } = potSeen u :=
    potSeen_clearIf u _ _ _
  have hraises (u : State) : potSeen { u.raise .filterLoaded 0 (some v) with exh.condLoaded := true } = potSeen u :=
    potSeen_raise u _ _ _
  simp only [dpArrival, potSeen_ite, hclears, hraises]
  simp
theorem potSeen_dpDelivery (r : Option Report) (v : Option Int) (s : State) : potSeen (dpDelivery r v s) = potSeen s := by
  cases r <;> cases v <;> simp [dpDelivery, dpReport]
@[simp] theorem potSeen_exhaustLineWrite (col : Nat) (s : State) : potSeen (exhaustLineWrite col s) = potSeen s := by
  unfold exhaustLineWrite
  split <;> simp
@[simp] theorem potSeen_exhaustRefresh (s : State) : potSeen (exhaustRefresh s) = potSeen s := by
  simp [exhaustRefresh]
@[simp] theorem potSeen_exhaustRestart (s : State) : potSeen (exhaustRestart s) = potSeen s := potSeen_deriveDemand _

/-! The alarm unit. -/

@[simp] theorem potSeen_offerAlarmNotice (r : AlarmRecord) (t : Telegram) (s : State) :
    potSeen (offerAlarmNotice r t s) = potSeen s := by
  unfold offerAlarmNotice
  split
  · rfl
  · split <;> simp
@[simp] theorem potSeen_evaluateHolding (s : State) : potSeen (evaluateHolding s) = potSeen s := by
  simp [evaluateHolding]
@[simp] theorem potSeen_removalReport (r : AlarmRecord) (s : State) : potSeen (removalReport r s) = potSeen s := by
  unfold removalReport
  split <;> simp
@[simp] theorem potSeen_testListFull (s : State) : potSeen (testListFull s) = potSeen s := by
  unfold testListFull
  split
  · rfl
  · split
    · rfl
    · split <;> simp
@[simp] theorem potSeen_removeRecord (r : AlarmRecord) (s : State) : potSeen (removeRecord r s) = potSeen s := by
  simp [removeRecord]
@[simp] theorem potSeen_replaceRecord (r : AlarmRecord) (s : State) : potSeen (replaceRecord r s) = potSeen s := rfl
@[simp] theorem potSeen_appendRecord (r : AlarmRecord) (s : State) : potSeen (appendRecord r s) = potSeen s := by
  simp [appendRecord]
@[simp] theorem potSeen_takeUpListFull (k : AlarmKind) (sev : Severity) (s : State) :
    potSeen (takeUpListFull k sev s) = potSeen s := by
  unfold takeUpListFull
  split <;> simp
@[simp] theorem potSeen_creationReport (k : AlarmKind) (s : State) : potSeen (creationReport k s) = potSeen s := by
  simp [creationReport]
@[simp] theorem potSeen_alarmRaise (k : AlarmKind) (n : Nat) (v : Option Int) (s : State) :
    potSeen (alarmRaise k n v s) = potSeen s := by
  have htake : potSeen (takeRaise k n v s) = potSeen s := by
    unfold takeRaise
    split
    · simp
    · dsimp only
      split
      · simp
      · split <;> simp
  simp [alarmRaise, htake]
@[simp] theorem potSeen_alarmClear (k : AlarmKind) (n : Nat) (s : State) : potSeen (alarmClear k n s) = potSeen s := by
  have htake : potSeen (takeClear k n s) = potSeen s := by
    unfold takeClear
    split
    · split <;> simp
    · simp
  simp [alarmClear, htake]
@[simp] theorem potSeen_acknowledgeListFull (s : State) : potSeen (acknowledgeListFull s) = potSeen s := by
  unfold acknowledgeListFull
  split
  · rfl
  · split <;> simp
@[simp] theorem potSeen_alarmAcknowledge (k : AlarmKind) (n : Nat) (s : State) :
    potSeen (alarmAcknowledge k n s) = potSeen s := by
  unfold alarmAcknowledge
  split
  · simp
  · split
    · rfl
    · split <;> simp
theorem potSeen_alarmRestart (s : State) : potSeen (alarmRestart s) = potSeen s := by
  unfold alarmRestart
  rw [potSeen_foldl fun t r => potSeen_removalReport r t]
  simp

/-! The tracker. -/

@[simp] theorem potSeen_mapTrack (s : State) (f : BoardRecord → BoardRecord) : potSeen (s.mapTrack f) = potSeen s := rfl
@[simp] theorem potSeen_endStall (s : State) : potSeen (endStall s) = potSeen s := by
  simp [endStall]
@[simp] theorem potSeen_testExits (s : State) : potSeen (testExits s) = potSeen s := by
  have hexits (n : Nat) (u : State) : potSeen (exitTest n u) = potSeen u := by
    induction n generalizing u with
    | zero => rfl
    | succ n ih =>
      unfold exitTest
      split
      · rfl
      · simp [ih, exitRecord]
  simp [testExits, stallOnEmpty, hexits]
@[simp] theorem potSeen_leadingEdge (p : Pos) (s : State) : potSeen (leadingEdge p s) = potSeen s := by
  simp [leadingEdge, appendBoard]
@[simp] theorem potSeen_endEyeBlocked (t : Tag) (s : State) : potSeen (endEyeBlocked t s) = potSeen s := by
  simp [endEyeBlocked]
@[simp] theorem potSeen_raiseLengths (r : BoardRecord) (len : Nat) (s : State) : potSeen (raiseLengths r len s) = potSeen s := by
  simp [raiseLengths]
@[simp] theorem potSeen_trailingEdge (p : Pos) (s : State) : potSeen (trailingEdge p s) = potSeen s := by
  unfold trailingEdge
  split
  · rfl
  · simp
@[simp] theorem potSeen_confirmEdge (c : Candidate) (s : State) : potSeen (confirmEdge c s) = potSeen s := by
  simp [confirmEdge]
theorem potSeen_eyeLevel (blocked : Bool) (s : State) : potSeen (eyeLevel blocked s) = potSeen s := by
  unfold eyeLevel
  split <;> simp
@[simp] theorem potSeen_testCandidate (s : State) : potSeen (testCandidate s) = potSeen s := by
  unfold testCandidate
  split <;> simp
@[simp] theorem potSeen_testEyeBlocked (s : State) : potSeen (testEyeBlocked s) = potSeen s := by
  unfold testEyeBlocked
  split <;> simp
@[simp] theorem potSeen_positionAdvance (s : State) : potSeen (positionAdvance s) = potSeen s := by
  simp [positionAdvance, endReverse]
theorem potSeen_encoderLevels (a b : Bool) (s : State) : potSeen (encoderLevels a b s) = potSeen s := by
  unfold encoderLevels
  dsimp only
  split
  · rfl
  · simp [forwardPulse]
  · simp [reversePulse, reverseTenth]
theorem potSeen_measureSpeed (s : State) : potSeen (measureSpeed s) = potSeen s := by
  have hcheck (u : State) : potSeen (speedCheck u) = potSeen u := by
    unfold speedCheck
    split <;> simp
  simp [measureSpeed, hcheck]
theorem potSeen_announceBoard (entry row : Nat) (id : List Byte) (s : State) :
    potSeen (announceBoard entry row id s).2 = potSeen s := by
  unfold announceBoard
  split <;> simp
theorem potSeen_withdrawAnnounces (s : State) : potSeen (withdrawAnnounces s) = potSeen s := by
  simp [withdrawAnnounces]
theorem potSeen_purgeTrack (s : State) : potSeen (purgeTrack s).2 = potSeen s := by
  have hrecord (t : State) (r : BoardRecord) : potSeen (purgeRecord r t) = potSeen t := by simp [purgeRecord]
  have hclears (u : State) (k : AlarmKind) (n : Nat) (trk : Tracker) : potSeen (State.clear { u with trk } k n) = potSeen u :=
    potSeen_clear _ k n
  have hconditions (u : State) : potSeen (purgeConditions u) = potSeen u := by
    unfold purgeConditions
    dsimp only
    rw [potSeen_endStall]
    split <;> split <;> simp only [hclears]
  unfold purgeTrack
  split
  · rfl
  · simp [hconditions, potSeen_foldl hrecord]

/-! The filter. -/

@[simp] theorem potSeen_setEntry (s : State) (e : Nat) (c : EntryCtx) : potSeen (s.setEntry e c) = potSeen s := rfl
@[simp] theorem potSeen_setNodeFault (s : State) (f : OutFn) (b : Bool) : potSeen (s.setNodeFault f b) = potSeen s := rfl
@[simp] theorem potSeen_endNodeFault (f : OutFn) (s : State) : potSeen (endNodeFault f s) = potSeen s := by
  simp [endNodeFault]
@[simp] theorem potSeen_restartEntry (e : Nat) (s : State) : potSeen (restartEntry e s) = potSeen s := by
  simp [restartEntry]
theorem potSeen_takeSample (src status : Nat) (pairs : List (Nat × Int)) (s : State) :
    potSeen (takeSample src status pairs s) = potSeen s := by
  have hpair (t : State) (p : Nat × Int) : potSeen (takePair src t p) = potSeen t := by
    unfold takePair
    split
    · rfl
    · simp [takeFaultPair, takeValidPair]
  have hnode (t : State) (f : OutFn) : potSeen (testNode status t f) = potSeen t := by simp [testNode]
  exact (potSeen_foldl hpair _ _).trans (potSeen_foldl hnode _ _)
theorem potSeen_ageExpire (e : Nat) (s : State) : potSeen (ageExpire e s) = potSeen s := by
  simp [ageExpire]
@[simp] theorem potSeen_filterOnLine (old : LineState) (s : State) : potSeen (filterOnLine old s) = potSeen s := by
  rw [filterOnLine_frame]
  rfl

theorem potSeen_filterRestart (s : State) : potSeen (filterRestart s) = potSeen s := rfl

/-! The line controller, where the line state stands. -/

@[simp] theorem potSeen_derivePermit (s : State) : potSeen (derivePermit s) = potSeen s := rfl
@[simp] theorem potSeen_deriveLamps (s : State) : potSeen (deriveLamps s) = potSeen s := rfl
@[simp] theorem potSeen_deriveHold (s : State) : potSeen (deriveHold s) = potSeen s := rfl
@[simp] theorem potSeen_changeoverEval (s : State) : potSeen (changeoverEval s) = potSeen s := rfl
@[simp] theorem potSeen_lineOnRecord (appended : Bool) (s : State) : potSeen (lineOnRecord appended s) = potSeen s := by
  unfold lineOnRecord
  split <;> rfl

/-! The writes and directives that touch none of it. -/

theorem potSeen_writeRecipe (row col v : Nat) (s : State) : potSeen (writeRecipe row col v s) = potSeen s := by
  simp [writeRecipe]
theorem potSeen_writeChannel (row col : Nat) (v : Int) (s : State) : potSeen (writeChannel row col v s) = potSeen s := by
  simp [writeChannel]
theorem potSeen_writeOutput (row col : Nat) (v : Int) (s : State) : potSeen (writeOutput row col v s) = potSeen s := by
  simp [writeOutput]
theorem potSeen_readStatus (entry selector part : Nat) (s : State) : potSeen (readStatus entry selector part s).2.2 = potSeen s := by
  unfold readStatus
  split
  · rfl
  · split
    · rfl
    · split
      · rfl
      · split <;> rfl
theorem potSeen_setCursor (entry table firstRow lastRow firstCol lastCol mode : Nat) (s : State) :
    potSeen (setCursor entry table firstRow lastRow firstCol lastCol mode s).2 = potSeen s := by
  unfold setCursor
  split <;> rfl
theorem potSeen_readRun (entry count : Nat) (s : State) : potSeen (readRun entry count s).2.2 = potSeen s := by
  unfold readRun
  split
  · rfl
  · split <;> rfl
theorem potSeen_acknowledgePair (kind source : Nat) (s : State) : potSeen (acknowledgePair kind source s).2 = potSeen s := by
  unfold acknowledgePair
  split
  · rfl
  · split
    · rfl
    · exact potSeen_alarmAcknowledge _ _ _
theorem potSeen_clockSet (d h m sec : Nat) (s : State) : potSeen (clockSet d h m sec s).2 = potSeen s := by
  unfold clockSet
  split <;> rfl
theorem potSeen_setAddress (first : Bool) (a : Nat) (s : State) : potSeen (setAddress first a s).2 = potSeen s := by
  unfold setAddress
  split
  · rfl
  · split <;> rfl

end Sys2Proof.Proofs
end

section
/-! SUPPORT. The interlocks of the feeder (R79, R83, R84) and of the pump (R87), and what the pot controller does to them. -/
namespace Sys2Proof.Proofs
open Sys2Proof Sys2Proof.Machine Sys2Proof.Safety

/-! The interlocks. -/

/-- The feeder's interlocks that hold under any off cause: a drive only in FEEDING, no FEEDING with the gate OPEN, and JAMMED exactly
while the jam latch is set (R80, R83, R84). -/
structure FeederHeld (p : Pot) : Prop where
  drive : p.feedDrive ≠ 0 → p.feeder = .feeding
  gate : p.feeder = .feeding → p.gateBoard = none
  jam : p.jam = true ↔ p.feeder = .jammed

/-- The feeder's interlocks, IDLE, FEEDING and PAUSED only without an off cause among them (R79). -/
structure FeederSound (s : State) : Prop where
  held : FeederHeld s.pot
  running : s.pot.feeder = .idle ∨ s.pot.feeder = .feeding ∨ s.pot.feeder = .paused → s.feederOffCause = false

/-- The pump's interlocks (R87). -/
structure PumpSound (s : State) : Prop where
  pump : s.pot.pump ≠ 0 →
    s.pot.condCritical = false ∧ s.pot.criticalRecord = false ∧ s.line.state ≠ .idle ∧ s.line.state ≠ .stopped
  molten : s.pot.pump ≠ 0 → s.line.state = .service ∨ s.heat.potMolten = true ∨ .potMoltenChanged ∈ s.events

theorem potInv_iff (s : State) : PotInv s ↔ FeederSound s ∧ PumpSound s where
  mp h := ⟨⟨⟨h.drive, h.gate, h.jam⟩, h.running⟩, h.pump, h.molten⟩
  mpr h := by
    obtain ⟨⟨⟨hdrive, hgate, hjam⟩, hrunning⟩, hpump, hmolten⟩ := h
    exact ⟨hdrive, hgate, hrunning, hjam, hpump, hmolten⟩

section Seen
variable {s t : State} (h : potSeen t = potSeen s)
include h

theorem potCore_of_seen : potCore t.pot = potCore s.pot := congrArg Prod.fst h

theorem lineState_of_seen : t.line.state = s.line.state := congrArg (fun x => x.2.1) h

/-- What the interlocks do not read keeps the feeder's. -/
theorem FeederSound.of_seen (hs : FeederSound s) : FeederSound t := by
  have hcore := potCore_of_seen h
  have hdrive : t.pot.feedDrive = s.pot.feedDrive := (congrArg Pot.feedDrive hcore :)
  have hfeeder : t.pot.feeder = s.pot.feeder := (congrArg Pot.feeder hcore :)
  have hgate : t.pot.gateBoard = s.pot.gateBoard := (congrArg Pot.gateBoard hcore :)
  have hjam : t.pot.jam = s.pot.jam := (congrArg Pot.jam hcore :)
  have hsensor : t.pot.sensor = s.pot.sensor := (congrArg Pot.sensor hcore :)
  obtain ⟨⟨hd, hg, hj⟩, hr⟩ := hs
  refine ⟨⟨?_, ?_, ?_⟩, ?_⟩
  · rwa [hdrive, hfeeder]
  · rwa [hfeeder, hgate]
  · rwa [hjam, hfeeder]
  · rwa [hfeeder, State.feederOffCause, lineState_of_seen h, hsensor]

/-- What the interlocks do not read keeps the pump's. -/
theorem PumpSound.of_seen (hs : PumpSound s) : PumpSound t := by
  have hcore := potCore_of_seen h
  have hpump : t.pot.pump = s.pot.pump := (congrArg Pot.pump hcore :)
  have hcritical : t.pot.condCritical = s.pot.condCritical := (congrArg Pot.condCritical hcore :)
  have hrecord : t.pot.criticalRecord = s.pot.criticalRecord := (congrArg Pot.criticalRecord hcore :)
  have hmolten : t.heat.potMolten = s.heat.potMolten := congrArg (fun x => x.2.2.1) h
  have hwaits : .potMoltenChanged ∈ t.events ↔ .potMoltenChanged ∈ s.events :=
    decide_eq_decide.mp (congrArg (fun x => x.2.2.2) h :)
  obtain ⟨hp, hm⟩ := hs
  constructor
  · rwa [hpump, hcritical, hrecord, lineState_of_seen h]
  · rwa [hpump, lineState_of_seen h, hmolten, hwaits]

/-- What the interlocks do not read keeps them. -/
theorem potInv_of_seen (hs : PotInv s) : PotInv t := by
  obtain ⟨hfeeder, hpump⟩ := (potInv_iff s).mp hs
  exact (potInv_iff t).mpr ⟨hfeeder.of_seen h, hpump.of_seen h⟩

end Seen

/-! The feeder. -/

section Feeder
variable {s : State}

@[simp] theorem potSeen_deriveFeederCmd (s : State) : potSeen (deriveFeederCmd s) = potSeen s := by
  have hset (v : Nat) : potSeen { s with pot.feederCmd := v } = potSeen s := rfl
  simp [deriveFeederCmd, hset]

theorem potSeen_setDrive (v : Nat) (s : State) : potSeen (setDrive v s) = potSeen { s with pot.feedDrive := v } :=
  potSeen_deriveFeederCmd _

theorem potSeen_endAttempt (f : FeederState) (s : State) :
    potSeen (endAttempt f s) = potSeen { s with pot.feeder := f, pot.feedDrive := 0 } :=
  potSeen_setDrive 0 _

/-- The feeder moves, its drive and the jam latch with it; the pump stands. -/
theorem potInv_moveFeeder (hs : PotInv s) {f : FeederState} {d : Nat} {j : Bool}
    (hdrive : d ≠ 0 → f = .feeding) (hgate : f = .feeding → s.pot.gateBoard = none) (hjam : j = true ↔ f = .jammed)
    (hrunning : f = .idle ∨ f = .feeding ∨ f = .paused → s.feederOffCause = false) :
    PotInv { s with pot.feeder := f, pot.feedDrive := d, pot.jam := j } :=
  ⟨hdrive, hgate, hrunning, hjam, hs.pump, hs.molten⟩

theorem jam_of_feeder (hs : FeederHeld s.pot) (h : s.pot.feeder ≠ .jammed) : s.pot.jam = false :=
  Bool.eq_false_iff.mpr fun hjam => h (hs.jam.mp hjam)

/-- An attempt ends in IDLE, OFF or JAMMED, without a drive (R81, R84, R85). -/
theorem potInv_endAttempt (hs : PotInv s) {f : FeederState} {j : Bool} (hf : f ≠ .feeding ∧ f ≠ .paused)
    (hjam : j = true ↔ f = .jammed) (hidle : f = .idle → s.feederOffCause = false) :
    PotInv (endAttempt f { s with pot.jam := j }) := by
  have hends : PotInv { s with pot.feeder := f, pot.feedDrive := 0, pot.jam := j } :=
    potInv_moveFeeder hs (fun h => absurd rfl h) (fun h => absurd h hf.1) hjam fun h =>
      hidle (h.resolve_right fun h => h.elim hf.1 hf.2)
  exact potInv_of_seen (potSeen_endAttempt f _) hends

/-- Deriving the feeder writes its state, and the drive of an attempt that an off cause ends (R79, R85). -/
theorem potSeen_deriveFeeder (s : State) : potSeen (deriveFeeder s) = potSeen { s with
    pot.feeder := if s.pot.jam = true then s.pot.feeder else feederBy s.feederOffCause s.pot.feeder
    pot.feedDrive :=
      if s.pot.jam = false ∧ s.feederOffCause = true ∧ (s.pot.feeder = .feeding ∨ s.pot.feeder = .paused) then 0
      else s.pot.feedDrive } := by
  have hsame {f : FeederState} (hf : s.pot.feeder = f) : potSeen s = potSeen { s with pot.feeder := f } := by
    rw [← hf]
  unfold deriveFeeder
  cases s.pot.jam with
  | true => rfl
  | false =>
    cases s.feederOffCause with
    | false =>
      cases hf : s.pot.feeder with
      | off => rfl
      | idle | feeding | paused | jammed => exact hsame hf
    | true =>
      cases hf : s.pot.feeder with
      | idle => rfl
      | off | jammed => exact hsame hf
      | feeding | paused => exact potSeen_endAttempt .off s

/-- Without a jam the derived state is IDLE, FEEDING or PAUSED only without an off cause (R79). -/
theorem off_of_feederBy {off : Bool} {f : FeederState}
    (h : feederBy off f = .idle ∨ feederBy off f = .feeding ∨ feederBy off f = .paused) : off = false := by
  cases off with
  | false => rfl
  | true => cases f <;> simp [feederBy] at h

theorem feederBy_eq_feeding {off : Bool} {f : FeederState} : feederBy off f = .feeding ↔ f = .feeding ∧ off = false := by
  cases off <;> cases f <;> simp [feederBy]

theorem feederBy_eq_jammed {off : Bool} {f : FeederState} : feederBy off f = .jammed ↔ f = .jammed := by
  cases off <;> cases f <;> simp [feederBy]

/-- Whatever off causes come or go, the derived feeder is sound (R79, R85). -/
theorem feederSound_deriveFeeder (hs : FeederHeld s.pot) : FeederSound (deriveFeeder s) := by
  obtain ⟨hdrive, hgate, hjam⟩ := hs
  have hmoved (f : FeederState) (d : Nat) (h : FeederHeld { s.pot with feeder := f, feedDrive := d })
      (hr : f = .idle ∨ f = .feeding ∨ f = .paused → s.feederOffCause = false) :
      FeederSound { s with pot.feeder := f, pot.feedDrive := d } := ⟨h, hr⟩
  refine FeederSound.of_seen (potSeen_deriveFeeder s) (hmoved _ _ ?_ ?_)
  · by_cases hj : s.pot.jam = true
    · rw [if_pos hj, if_neg fun h => Bool.false_ne_true (h.1.symm.trans hj)]
      exact ⟨hdrive, hgate, hjam⟩
    · rw [if_neg hj]
      refine ⟨fun hd => ?_, fun hf => hgate (feederBy_eq_feeding.mp hf).1, hjam.trans feederBy_eq_jammed.symm⟩
      obtain ⟨hgoes, hd⟩ := ite_ne_left_iff.mp hd
      have hfeeding := hdrive hd.symm
      refine feederBy_eq_feeding.mpr ⟨hfeeding, Bool.eq_false_iff.mpr fun hoff => hgoes ?_⟩
      exact ⟨Bool.eq_false_iff.mpr hj, hoff, .inl hfeeding⟩
  · by_cases hj : s.pot.jam = true
    · rw [if_pos hj, hjam.mp hj]
      simp
    · rw [if_neg hj]
      exact off_of_feederBy

theorem PumpSound.deriveFeeder (hs : PumpSound s) : PumpSound (deriveFeeder s) :=
  .of_seen (potSeen_deriveFeeder s) ⟨hs.pump, hs.molten⟩

end Feeder

/-! The pump. -/

section Pump
variable {s : State}

/-- A pump command is derived only where no row of R87 forbids it. -/
theorem allowed_of_derivedPump (h : s.derivedPump.1 ≠ 0) :
    (s.pot.condCritical = false ∧ s.pot.criticalRecord = false ∧ s.line.state ≠ .idle ∧ s.line.state ≠ .stopped) ∧
      (s.line.state = .service ∨ s.heat.potMolten = true) := by
  rw [derivedPump_eq_table] at h
  split at h
  · exact absurd rfl h
  · next hlevel =>
    obtain ⟨hcritical, hrecord⟩ := not_or.mp hlevel
    rw [← Bool.not_eq_true, ← Bool.not_eq_true]
    split at h
    · next hservice => exact ⟨⟨hcritical, hrecord, by rw [hservice]; decide, by rw [hservice]; decide⟩, .inl hservice⟩
    · split at h
      · exact absurd rfl h
      · next hline =>
        obtain ⟨hidle, hstopped⟩ := not_or.mp hline
        split at h
        · exact absurd rfl h
        · next hmolten => exact ⟨⟨hcritical, hrecord, hidle, hstopped⟩, .inr (Bool.not_eq_false _ ▸ hmolten)⟩

/-- The derived pump command keeps the pump's interlocks, whatever it was (R87). -/
theorem pumpSound_derivePump (s : State) : PumpSound (derivePump s) := by
  have hline := line_of_exceptPot (exceptPot_derivePump s)
  have hheat := heat_of_exceptPot (exceptPot_derivePump s)
  constructor
  · rw [hline, pot_derivePump]
    exact fun hpump => (allowed_of_derivedPump hpump).1
  · rw [hline, hheat, pot_derivePump]
    exact fun hpump => (allowed_of_derivedPump hpump).2.imp_right .inl

theorem FeederSound.derivePump (hs : FeederSound s) : FeederSound (derivePump s) := by
  have hpot := pot_derivePump s
  have hoff : (Machine.derivePump s).feederOffCause = s.feederOffCause := by
    rw [State.feederOffCause, line_of_exceptPot (exceptPot_derivePump s), hpot]
    rfl
  obtain ⟨⟨hdrive, hgate, hjam⟩, hrunning⟩ := hs
  refine ⟨?_, ?_⟩
  · rw [hpot]
    exact ⟨hdrive, hgate, hjam⟩
  · rw [hoff, hpot]
    exact hrunning

/-- With a sound feeder, deriving the pump command gives all the interlocks (R87). -/
theorem potInv_derivePump (hs : FeederSound s) : PotInv (derivePump s) :=
  (potInv_iff _).mpr ⟨hs.derivePump, pumpSound_derivePump s⟩

end Pump

/-! The wave gate (R83, R86) and the wave crossings. -/

section Gate
variable {s : State}

/-- An opening gate pauses a FEEDING feeder, and only a closed one lets it feed again (R83). -/
theorem feederSound_gateMoved (hs : FeederSound s) : FeederSound (gateMoved s) := by
  obtain ⟨⟨hdrive, hgate, hjam⟩, hrunning⟩ := hs
  have hfeeder := gateMoved_feeder s
  have hframe := gateMoved_frame s
  have hoff : (gateMoved s).feederOffCause = s.feederOffCause := by rw [hframe]; rfl
  have hboard : (gateMoved s).pot.gateBoard = nextGate s := by rw [hframe]
  have hlatch : (gateMoved s).pot.jam = s.pot.jam := by rw [hframe]
  have hmoved {f : FeederState} {d : Nat} (h : ((gateMoved s).pot.feeder, (gateMoved s).pot.feedDrive) = (f, d))
      (hd : d ≠ 0 → f = .feeding) (hg : f = .feeding → nextGate s = none) (hj : s.pot.jam = true ↔ f = .jammed)
      (hr : f = .idle ∨ f = .feeding ∨ f = .paused → s.feederOffCause = false) : FeederSound (gateMoved s) := by
    obtain ⟨hf, hd'⟩ := Prod.mk.inj h
    refine ⟨⟨?_, ?_, ?_⟩, ?_⟩
    · rwa [hf, hd']
    · rwa [hf, hboard]
    · rwa [hf, hlatch]
    · rwa [hf, hoff]
  have hlatched (h : s.pot.feeder ≠ .jammed) : s.pot.jam = false := Bool.eq_false_iff.mpr fun hj => h (hjam.mp hj)
  split at hfeeder
  · next hopens =>
    obtain ⟨-, -, hfeeding⟩ := hopens
    refine hmoved hfeeder (fun h => absurd rfl h) nofun ?_ fun _ => hrunning (.inr (.inl hfeeding))
    simp [hlatched (by rw [hfeeding]; decide)]
  · next hstays =>
    split at hfeeder
    · next hcloses =>
      obtain ⟨hnone, -, hpaused⟩ := hcloses
      refine hmoved hfeeder (fun _ => rfl) (fun _ => hnone) ?_ fun _ => hrunning (.inr (.inr hpaused))
      simp [hlatched (by rw [hpaused]; decide)]
    · refine hmoved hfeeder hdrive (fun hfeeding => ?_) hjam hrunning
      by_contra hsome
      exact hstays ⟨hsome, hgate hfeeding, hfeeding⟩

theorem potInv_evalGate (hs : PotInv s) : PotInv (evalGate s) := by
  by_cases hsame : nextGate s = s.pot.gateBoard
  · rw [evalGate_same hsame]
    exact hs
  · rw [evalGate_changed hsame]
    exact potInv_derivePump (feederSound_gateMoved ((potInv_iff s).mp hs).1)

theorem potSeen_waveCrossings (s : State) : potSeen (waveCrossings s) = potSeen s := by
  have hraise (t : State) (r : BoardRecord) : potSeen (raiseDwellOut r t) = potSeen t := by
    unfold raiseDwellOut
    split
    · rfl
    · simp
  simp [waveCrossings, potSeen_foldl hraise]

theorem potInv_potOnTrack (hs : PotInv s) : PotInv (potOnTrack s) :=
  potInv_of_seen (potSeen_waveCrossings _) (potInv_evalGate hs)

end Gate

/-! Level arrivals, the feed timer, reports and writes. -/

section Operations
variable {s : State}

/-- The level tests write the two level conditions and the mailbox (R77). -/
theorem FeederSound.levelTests (v : Nat) (hs : FeederSound s) : FeederSound (levelTests v s) := by
  have hcritical {u : State} (b : Bool) (hu : FeederSound u) : FeederSound { u with pot.condCritical := b } :=
    ⟨⟨hu.held.drive, hu.held.gate, hu.held.jam⟩, hu.running⟩
  have hover {u : State} (b : Bool) (hu : FeederSound u) : FeederSound { u with pot.condOver := b } :=
    ⟨⟨hu.held.drive, hu.held.gate, hu.held.jam⟩, hu.running⟩
  have hraise {u : State} (k : AlarmKind) (hu : FeederSound u) : FeederSound (u.raise k 0 (some v)) :=
    .of_seen (potSeen_raise _ _ _ _) hu
  have hclear {u : State} (b : Bool) (k : AlarmKind) (hu : FeederSound u) : FeederSound (u.clearIf b k 0) :=
    .of_seen (potSeen_clearIf _ _ _ _) hu
  have hlow : FeederSound (if v ≤ s.levelCritical then
      if s.pot.condCritical then s else { s.raise .levelCritical 0 (some v) with pot.condCritical := true }
    else if s.levelCritical + 20 ≤ v then { s.clearIf s.pot.condCritical .levelCritical 0 with pot.condCritical := false }
    else s) := by
    split
    · split
      · exact hs
      · exact hcritical _ (hraise _ hs)
    · split
      · exact hcritical _ (hclear _ _ hs)
      · exact hs
  unfold Machine.levelTests
  dsimp only
  split
  · split
    · exact hlow
    · exact hover _ (hraise _ hlow)
  · split
    · exact hover _ (hclear _ _ hlow)
    · exact hlow

/-- An attempt begins only in IDLE with the gate CLOSED, and one that ends leaves IDLE (R80, R81). -/
theorem potInv_feederOnLevel (v : Nat) (hs : PotInv s) : PotInv (feederOnLevel v s) := by
  unfold feederOnLevel
  cases hf : s.pot.feeder with
  | off | jammed => exact hs
  | idle =>
    dsimp only
    split
    · next hbegins =>
      obtain ⟨-, hclosed, -⟩ := hbegins
      have hgate : s.pot.gateBoard = none := by simpa [State.gateOpen] using hclosed
      have hjam : s.pot.jam = false := jam_of_feeder ((potInv_iff s).mp hs).1.held (by rw [hf]; decide)
      refine potInv_of_seen (potSeen_setDrive _ _) ?_
      refine potInv_of_seen (s := { s with
        pot.feeder := .feeding, pot.feedDrive := s.feedSpeed s.pot.failures, pot.jam := s.pot.jam }) rfl
        (potInv_moveFeeder hs (fun _ => rfl) (fun _ => hgate) ?_ fun _ => hs.running (.inl hf))
      simp [hjam]
    · exact hs
  | feeding | paused =>
    dsimp only
    split
    · refine potInv_endAttempt (s := { s with pot.failures := 0 }) (j := s.pot.jam)
        ⟨hs.drive, hs.gate, hs.running, hs.jam, hs.pump, hs.molten⟩ (by decide) ?_ fun _ => hs.running (by simp [hf])
      simp [jam_of_feeder ((potInv_iff s).mp hs).1.held (by rw [hf]; decide)]
    · exact hs

theorem potInv_levelArrival (v : Nat) (hs : PotInv s) : PotInv (levelArrival v s) := by
  obtain ⟨⟨⟨hdrive, hgate, hjam⟩, hrunning⟩, -⟩ := (potInv_iff s).mp hs
  have hstored : FeederSound (State.post { s with pot.level := some v } .levelStored) := ⟨⟨hdrive, hgate, hjam⟩, hrunning⟩
  exact potInv_feederOnLevel v (potInv_of_seen (potSeen_deriveFeederCmd _) (potInv_derivePump (hstored.levelTests v)))

theorem potInv_levelReport (r : Report) (hs : PotInv s) : PotInv (levelReport r s) := by
  obtain ⟨hfeeder, hpump⟩ := (potInv_iff s).mp hs
  obtain ⟨⟨hdrive, hgate, hjam⟩, -⟩ := hfeeder
  refine (potInv_iff _).mpr ⟨feederSound_deriveFeeder ⟨hdrive, hgate, hjam⟩, ?_⟩
  exact PumpSound.deriveFeeder (s := { s with pot.sensor := potStatus r }) ⟨hpump.pump, hpump.molten⟩

theorem potInv_potDelivery (r : Option Report) (v : Option Int) (hs : PotInv s) : PotInv (potDelivery r v s) := by
  have hreported : PotInv (match r with | none => s | some r => levelReport r s) := by
    cases r with
    | none => exact hs
    | some r => exact potInv_levelReport r hs
  cases v with
  | none => exact hreported
  | some v => exact potInv_levelArrival _ hreported

/-- The feed timer's expiry moves the drive of a FEEDING feeder, or jams it (R82, R84). -/
theorem potInv_feedExpire (hfeeding : s.pot.feeder = .feeding) (hs : PotInv s) : PotInv (feedExpire s) := by
  have hcounted (n : Nat) : PotInv { s with pot.failures := n } :=
    ⟨hs.drive, hs.gate, hs.running, hs.jam, hs.pump, hs.molten⟩
  unfold feedExpire
  split
  · exact potInv_of_seen (s := s) rfl hs
  · split
    · refine potInv_of_seen (potSeen_setDrive _ _) ?_
      refine potInv_of_seen (s := { s with
        pot.feeder := s.pot.feeder, pot.feedDrive := s.feedSpeed (s.pot.failures + 1), pot.jam := s.pot.jam }) rfl ?_
      exact potInv_moveFeeder hs (fun _ => hfeeding) hs.gate hs.jam hs.running
    · exact potInv_of_seen (potSeen_raise _ _ _ _) (potInv_endAttempt (j := true) (hcounted 3) (by decide) (by decide) nofun)

/-- A feeder that leaves JAMMED has no drive (R84). -/
theorem potInv_feedJamRelease (hs : PotInv s) : PotInv (feedJamRelease s) := by
  unfold feedJamRelease
  split
  · next hjam =>
    have hdrive : s.pot.feedDrive = 0 :=
      not_imp_comm.mp hs.drive fun hfeeding => nomatch hfeeding.symm.trans (hs.jam.mp hjam)
    refine potInv_of_seen (s := { s with
      pot.feeder := if s.feederOffCause then .off else .idle, pot.feedDrive := s.pot.feedDrive, pot.jam := false }) rfl ?_
    refine potInv_moveFeeder hs (fun h => absurd hdrive h) ?_ ?_ ?_ <;> cases s.feederOffCause <;> simp
  · exact hs

theorem potInv_takeCriticalRecord (made : Bool) (hs : PotInv s) : PotInv (takeCriticalRecord made s) := by
  obtain ⟨⟨⟨hdrive, hgate, hjam⟩, hrunning⟩, -⟩ := (potInv_iff s).mp hs
  exact potInv_derivePump ⟨⟨hdrive, hgate, hjam⟩, hrunning⟩

theorem potInv_potLineWrite (hs : PotInv s) : PotInv (potLineWrite s) :=
  potInv_derivePump ((potInv_iff _).mp (potInv_evalGate hs)).1

theorem potInv_manualPumpOutput (v : Nat) (hs : PotInv s) : PotInv (manualPumpOutput v s) := by
  obtain ⟨⟨⟨hdrive, hgate, hjam⟩, hrunning⟩, -⟩ := (potInv_iff s).mp hs
  have hpump : PotInv (derivePump { s with pot.manualPump := manualValue v }) :=
    potInv_derivePump ⟨⟨hdrive, hgate, hjam⟩, hrunning⟩
  unfold manualPumpOutput
  dsimp only
  split
  · exact hpump
  · exact potInv_of_seen (potSeen_post _ nofun) hpump

theorem potSeen_manualFeederOutput (v : Nat) (s : State) : potSeen (manualFeederOutput v s) = potSeen s :=
  potSeen_deriveFeederCmd _

theorem potSeen_potRefresh (s : State) : potSeen (potRefresh s) = potSeen s :=
  (potSeen_commandValue _ _ _).trans (potSeen_commandValue _ _ _)

/-- LINE RESTART leaves the pot controller at rest (R94). -/
theorem potInv_potRestart (s : State) : PotInv (potRestart s) := by
  refine potInv_derivePump ⟨⟨fun h => absurd rfl h, nofun, ⟨nofun, nofun⟩⟩, fun h => ?_⟩
  simp at h

/-- A change of the line state derives the feeder and the pump command, from any feeder whose drive, gate and jam are held (R79, R87,
R130). -/
theorem potInv_potOnLine (old : LineState) (hs : FeederHeld s.pot) : PotInv (potOnLine old s) := by
  have hunmanned : FeederHeld (potUnmanned old s).pot := by
    rw [potUnmanned_frame]
    exact ⟨hs.drive, hs.gate, hs.jam⟩
  rw [potOnLine_eq]
  exact potInv_derivePump (.of_seen (potSeen_deriveFeederCmd _) (feederSound_deriveFeeder hunmanned))

end Operations

end Sys2Proof.Proofs
end

section
/-! SUPPORT. The heat controller keeps the pot's interlocks: it moves the pot-molten flag alone of what they read, and reports each
change of it (R56, R87). -/
namespace Sys2Proof.Proofs
open Sys2Proof Sys2Proof.Machine Sys2Proof.Safety

/-! What the heat controller's tests and duties leave alone. -/

@[simp] theorem potSeen_setLoop (s : State) (i : Nat) (c : LoopCtx) : potSeen (s.setLoop i c) = potSeen s := rfl
@[simp] theorem potSeen_setManual (i : Nat) (m : Option Nat) (s : State) : potSeen (setManual i m s) = potSeen s := by
  simp [setManual]
@[simp] theorem potSeen_sendDuty (i v : Nat) (s : State) : potSeen (sendDuty i v s) = potSeen s := by
  simp [sendDuty]
@[simp] theorem potSeen_sendZero (i : Nat) (s : State) : potSeen (sendZero i s) = potSeen s := by
  simp [sendZero]
@[simp] theorem potSeen_endHeatFail (i : Nat) (s : State) : potSeen (endHeatFail i s) = potSeen s := by
  simp [endHeatFail]
@[simp] theorem potSeen_heatFailTest (i : Nat) (s : State) : potSeen (heatFailTest i s) = potSeen s := by
  simp [heatFailTest]
@[simp] theorem potSeen_writeTarget (i v : Nat) (s : State) : potSeen (writeTarget i v s) = potSeen s := by
  simp [writeTarget]
@[simp] theorem potSeen_applyReport (i : Nat) (r : Option Report) (s : State) : potSeen (applyReport i r s) = potSeen s := by
  cases r <;> rfl
@[simp] theorem potSeen_overtempTest (i : Nat) (v : Int) (s : State) : potSeen (overtempTest i v s) = potSeen s := by
  simp [overtempTest]
@[simp] theorem potSeen_passTemp (i : Nat) (v : Int) (s : State) : potSeen (passTemp i v s) = potSeen s := by
  have htemp : potSeen { s with pot.potTemp := some v } = potSeen s := rfl
  simp [passTemp, exposeZone, htemp]
@[simp] theorem potSeen_driveLoop (i : Nat) (v : Int) (s : State) : potSeen (driveLoop i v s) = potSeen s := by
  unfold driveLoop
  split <;> simp [compute]
theorem potSeen_heatFailExpire (i : Nat) (s : State) : potSeen (heatFailExpire i s) = potSeen s := by
  simp [heatFailExpire]
@[simp] theorem potSeen_maxDutyWritten (i : Nat) (s : State) : potSeen (maxDutyWritten i s) = potSeen s := by
  simp [maxDutyWritten]

/-! The pot-molten flag. -/

section Heat
variable {s : State} (i : Nat)

/-- A change of the pot-molten flag is reported, so a running pump is stopped before the report is gone (R56, R87). -/
theorem potInv_setMolten (b : Bool) (hs : PotInv s) : PotInv (setMolten b s) := by
  unfold setMolten
  split
  · exact hs
  · exact ⟨hs.drive, hs.gate, hs.running, hs.jam, hs.pump, fun _ => .inr (.inr (by simp))⟩

theorem potInv_evalInBand (hs : PotInv s) : PotInv (evalInBand i s) := by
  have hband : PotInv (if s.inBandNow i = (s.loopCtx i).inBand then s
      else State.post (s.setLoop i { s.loopCtx i with inBand := s.inBandNow i }) (.inBandChanged i)) :=
    potInv_of_seen (by simp) hs
  unfold evalInBand
  dsimp only
  split
  · exact potInv_setMolten true hband
  · exact hband

theorem potInv_testLoop (hs : PotInv s) : PotInv (testLoop i s) :=
  potInv_of_seen (potSeen_heatFailTest _ _) (potInv_evalInBand i hs)

theorem potInv_evalTarget (hs : PotInv s) : PotInv (evalTarget i s) := by
  have hset (v : Nat) {u : State} (hu : PotInv u) : PotInv (setTarget i v u) := by
    unfold setTarget
    split
    · exact hu
    · exact potInv_testLoop i (potInv_of_seen (potSeen_writeTarget _ _ _) hu)
  unfold evalTarget
  exact hset _ (potInv_of_seen (by simp) hs)

theorem potInv_evalTargets (hs : PotInv s) : PotInv (evalTargets s) :=
  forLoops_keeps (fun i _ => potInv_evalTarget i) s hs

theorem potInv_idleExpire (hs : PotInv s) : PotInv (idleExpire i s) :=
  potInv_evalTarget i (potInv_of_seen (potSeen_setLoop _ _ _) hs)

/-- Entry into OFF or FAULT: loop 5 takes the pot-molten flag with it (R46, R56). -/
theorem potInv_enterRest (st : LoopState) (hs : PotInv s) : PotInv (enterRest i st s) := by
  have hrests : PotInv (endHeatFail i (evalInBand i
      (sendZero i (s.setLoop i { s.loopCtx i with state := st, lastComp := none, idleTimer := 0 })))) :=
    potInv_of_seen (potSeen_endHeatFail _ _) (potInv_evalInBand i (potInv_of_seen (by simp) hs))
  have hmolten {u : State} (hu : PotInv u) : PotInv (if i = 4 then setMolten false u else u) := by
    split
    · exact potInv_setMolten false hu
    · exact hu
  unfold enterRest
  dsimp only
  split
  · exact potInv_of_seen (potSeen_setManual _ _ _) (hmolten hrests)
  · exact hmolten hrests

theorem potInv_deriveLoop (hs : PotInv s) : PotInv (deriveLoop i s) := by
  unfold deriveLoop
  dsimp only
  split
  · exact hs
  · split
    · exact potInv_testLoop i (potInv_of_seen (by simp) hs)
    · exact potInv_testLoop i (potInv_of_seen (by simp) hs)
    · exact potInv_enterRest i .off hs
    · exact potInv_enterRest i .fault hs

/-! Arrivals, reports, writes and manual duties. -/

theorem potInv_heatDelivery (report : Option Report) (value : Option Int) (hs : PotInv s) :
    PotInv (heatDelivery i report value s) := by
  cases value with
  | none => exact potInv_deriveLoop i (potInv_of_seen (potSeen_applyReport _ _ _) hs)
  | some v =>
    refine potInv_testLoop i (potInv_of_seen (potSeen_driveLoop _ _ _) (potInv_deriveLoop i ?_))
    exact potInv_of_seen (by simp) hs

theorem potInv_overtempReleased (hs : PotInv s) : PotInv (overtempReleased i s) := by
  unfold overtempReleased
  dsimp only
  split
  · exact potInv_deriveLoop i (potInv_of_seen (potSeen_setLoop _ _ _) hs)
  · exact hs

theorem potInv_loopWrite (col : Nat) (hs : PotInv s) : PotInv (loopWrite i col s) := by
  unfold loopWrite
  split
  · exact potInv_of_seen (potSeen_maxDutyWritten _ _) hs
  · split
    · exact potInv_testLoop i hs
    · split
      · exact potInv_deriveLoop i (potInv_of_seen (by simp) hs)
      · exact hs

theorem potInv_manualHeater (v : Nat) (hs : PotInv s) : PotInv (manualHeater i v s).2 := by
  have hmanual (m : Option Nat) : PotInv (setManual i m s) := potInv_of_seen (potSeen_setManual _ _ _) hs
  unfold manualHeater
  split
  · exact hs
  · split
    · exact potInv_deriveLoop i (hmanual none)
    · dsimp only
      unfold takeManual
      split
      · exact potInv_of_seen (potSeen_sendDuty _ _ _) (hmanual _)
      · exact potInv_deriveLoop i (hmanual _)

end Heat

end Sys2Proof.Proofs
end

section
/-! SUPPORT. Every step keeps the interlocks of the feeder and of the pump (R79, R83, R84, R87, R130). -/
namespace Sys2Proof.Proofs
open Sys2Proof Sys2Proof.Machine Sys2Proof.Safety

/-! The line controller. -/

section Line
variable {s : State}

/-- The blocks after the pot controller leave what its interlocks read (R130). -/
theorem potSeen_changeLine (new : LineState) (cause : LineCause) (s : State) :
    potSeen (changeLine new cause s) = potSeen (afterPot new s) := by
  rw [changeLine_eq_offer, potSeen_offerUpNormal]
  unfold afterLines afterBlocks afterExhaust
  simp

/-- A change of the line state, from any feeder whose drive, gate and jam are held, leaves the interlocks (R79, R87, R130). -/
theorem potInv_changeLine (new : LineState) (cause : LineCause) (hs : PotInv s) : PotInv (changeLine new cause s) := by
  have hheld : FeederHeld (afterFlux new s).pot := by
    rw [pot_afterFlux]
    exact ((potInv_iff s).mp hs).1.held
  refine potInv_of_seen (potSeen_changeLine new cause s) ?_
  unfold afterPot
  exact potInv_potOnLine _ hheld

theorem potInv_settleTest (hs : PotInv s) : PotInv (settleTest s) := by
  unfold settleTest
  split
  · exact potInv_of_seen (s := s) rfl hs
  · split
    · exact potInv_changeLine _ _ hs
    · exact hs

theorem potInv_retestSettle (hs : PotInv s) : PotInv (retestSettle s) := by
  unfold retestSettle
  split
  · exact potInv_settleTest hs
  · exact hs

theorem potInv_enterLine (new : LineState) (cause : LineCause) (hs : PotInv s) : PotInv (enterLine new cause s) := by
  unfold enterLine
  dsimp only
  split
  · exact potInv_settleTest (potInv_changeLine _ _ hs)
  · exact potInv_changeLine _ _ hs

theorem potInv_takePublished (h : Option Severity) (w : Bool) (hs : PotInv s) : PotInv (takePublished h w s) := by
  have hheld : PotInv (deriveLamps { s with line.holding := h, line.warn := w }) := potInv_of_seen (s := s) rfl hs
  unfold takePublished actOnSeverity
  split
  · split
    · exact potInv_enterLine _ _ hheld
    · exact hheld
  · split
    · exact potInv_enterLine _ _ hheld
    · exact potInv_retestSettle hheld
  all_goals exact potInv_retestSettle hheld

end Line

/-! Internal events. -/

section Events
variable {s : State}

theorem potInv_takeDelivery (q : Quantity) (r : Option Report) (v : Option Int) (hs : PotInv s) :
    PotInv (takeDelivery q r v s) := by
  cases q with
  | none => exact hs
  | zoneTemp1 => exact potInv_heatDelivery 0 r v hs
  | zoneTemp2 => exact potInv_heatDelivery 1 r v hs
  | zoneTemp3 => exact potInv_heatDelivery 2 r v hs
  | zoneTemp4 => exact potInv_heatDelivery 3 r v hs
  | potTemp => exact potInv_heatDelivery 4 r v hs
  | potLevel => exact potInv_potDelivery r v hs
  | exhaustFlow => exact potInv_of_seen (potSeen_flowDelivery r v s) hs
  | filterDp => exact potInv_of_seen (potSeen_dpDelivery r v s) hs
  | fluxPressure => exact potInv_of_seen (potSeen_pressureDelivery r v s) hs

/-- Every other event than the report of a change of the pot-molten flag keeps the interlocks. -/
theorem potInv_handle_of_ne {e : Event} (he : e ≠ .potMoltenChanged) (hs : PotInv s) : PotInv (handle e s) := by
  have htracked : PotInv (potOnTrack (evalTargets (fluxEvaluate s))) :=
    potInv_potOnTrack (potInv_evalTargets (potInv_of_seen (potSeen_fluxEvaluate s) hs))
  cases e with
  | raise k n v => exact potInv_of_seen (potSeen_alarmRaise k n v s) hs
  | clear k n => exact potInv_of_seen (potSeen_alarmClear k n s) hs
  | published h w => exact potInv_takePublished h w hs
  | overtempRemoved i => exact potInv_overtempReleased i hs
  | levelCriticalRecord made => exact potInv_takeCriticalRecord made hs
  | feedJamRemoved => exact potInv_feedJamRelease hs
  | feedJamDropped => exact hs
  | advance => exact potInv_of_seen (potSeen_changeoverEval _) htracked
  | recordChange appended => exact potInv_of_seen (potSeen_lineOnRecord appended _) htracked
  | announceChange => exact potInv_of_seen (potSeen_changeoverEval _) (potInv_evalTargets hs)
  | speedMeasured => exact potInv_of_seen (potSeen_fluxEvaluate _) (potInv_of_seen (potSeen_recomputeLead s) hs)
  | inBandChanged i =>
    show PotInv (onInBand i s)
    unfold onInBand
    split
    · exact potInv_of_seen (potSeen_changeoverEval _) (potInv_retestSettle hs)
    · exact potInv_retestSettle hs
  | targetChanged i => exact potInv_of_seen (by simp [handle, onTarget]) hs
  | potMoltenChanged => exact absurd rfl he
  | levelStored => exact potInv_retestSettle hs
  | valveReport o => exact potInv_of_seen (potSeen_demandReported s _) hs
  | heaterReport b => exact potInv_of_seen (potSeen_demandReported s _) hs
  | pumpReport b => exact potInv_of_seen (potSeen_demandReported s _) hs
  | feederReport b => exact potInv_of_seen (potSeen_demandReported s _) hs
  | delivery q r v => exact potInv_takeDelivery q r v hs

/-- Taking the event at the head of the mailbox keeps the interlocks: a change of the pot-molten flag that it reports is met by the
pump's derivation, and the report of another still waits (R56, R87). -/
theorem potInv_handle {e : Event} {rest : List Event} (hhead : s.events = e :: rest) (hs : PotInv s) :
    PotInv (handle e { s with events := rest }) := by
  by_cases he : e = .potMoltenChanged
  · subst he
    have hfeeder : FeederSound { s with events := rest } := ⟨⟨hs.drive, hs.gate, hs.jam⟩, hs.running⟩
    exact potInv_retestSettle (potInv_derivePump hfeeder)
  · have hwaits : .potMoltenChanged ∈ s.events ↔ .potMoltenChanged ∈ rest := by
      simp [hhead, Ne.symm he]
    refine potInv_handle_of_ne he ⟨hs.drive, hs.gate, hs.running, hs.jam, hs.pump, fun hpump => ?_⟩
    exact (hs.molten hpump).imp_right (Or.imp_right hwaits.mp)

theorem potInv_settle (hs : PotInv s) : PotInv (settle s) := settle_keeps_of_head potInv_handle hs

end Events

/-! Writes to the tables, and the directives. -/

section Directives
variable {s : State}

theorem potInv_writeLine (col v : Nat) (hs : PotInv s) : PotInv (writeLine col v s) := by
  have hstored : potSeen { s with tab.line := s.tab.line.set col v } = potSeen s := rfl
  have htargets : PotInv (evalTargets (if col = 3 then recomputeLead { s with tab.line := s.tab.line.set col v }
      else { s with tab.line := s.tab.line.set col v })) :=
    potInv_evalTargets (potInv_of_seen (by simp [hstored]) hs)
  unfold writeLine
  dsimp only
  exact potInv_of_seen ((potSeen_exhaustLineWrite _ _).trans (potSeen_changeoverEval _)) (potInv_potLineWrite htargets)

theorem potInv_writeLoop (row col v : Nat) (hs : PotInv s) : PotInv (writeLoop row col v s) := by
  have hwritten : PotInv (loopWrite row col { s with tab.loop := s.tab.loop.set row ((s.tab.loop.getD row []).set col v) }) :=
    potInv_loopWrite row col (potInv_of_seen (s := s) rfl hs)
  exact potInv_of_seen (by simp [writeLoop]) hwritten

/-- A write of any cell keeps the interlocks (R180). -/
theorem potInv_writeCell (table row col : Nat) (v : Int) (hs : PotInv s) : PotInv (writeCell table row col v s) := by
  unfold writeCell
  split
  · exact potInv_of_seen (potSeen_writeRecipe _ _ _ _) hs
  · exact potInv_writeLine _ _ hs
  · exact potInv_writeLoop _ _ _ hs
  · exact potInv_of_seen (potSeen_writeChannel _ _ _ _) hs
  · exact potInv_of_seen (potSeen_writeOutput _ _ _ _) hs
  · exact potInv_of_seen (s := s) rfl hs
  · exact potInv_of_seen (s := s) rfl hs

theorem potInv_acknowledge (form kind source : Nat) (hs : PotInv s) : PotInv (acknowledge form kind source s).2 := by
  unfold acknowledge
  split
  · exact potInv_of_seen (potSeen_acknowledgePair _ _ s) hs
  · exact acknowledgeAll_keeps (P := PotInv) potInv_settle (fun _ _ => potInv_of_seen (potSeen_alarmAcknowledge _ _ _))
      (potInv_of_seen (potSeen_acknowledgeListFull _)) hs
  · exact hs

theorem potSeen_lineRestartFields (s : State) : potSeen (lineRestartFields s) = potSeen s := rfl

/-- LINE RESTART puts the pot controller to rest, and what follows keeps its interlocks (R94, R137). -/
theorem potInv_lineRestart (hs : PotInv s) : PotInv (lineRestart s).2 := by
  have hblocks : PotInv (restartBlocks s) := by
    refine potInv_of_seen ?_ (potInv_potRestart (heatRestart (fluxRestart (trackerRestart s))))
    rw [restartBlocks, potSeen_filterRestart, potSeen_alarmRestart, potSeen_exhaustRestart]
  have hfields : PotInv (lineRestartFields (settle (restartBlocks s))) :=
    potInv_of_seen (potSeen_lineRestartFields _) (potInv_settle hblocks)
  unfold lineRestart restartToIdle
  split
  · dsimp only
    split
    · exact potInv_of_seen ((potSeen_deriveLamps _).trans (potSeen_deriveDemand _))
        (forLoops_keeps (fun i _ => potInv_deriveLoop i) _ hfields)
    · exact potInv_enterLine _ _ hfields
  · exact hs

/-- Every directive keeps the interlocks. -/
theorem potInv_directive (entry src : Nat) (first : Bool) (d : Directive) (hs : PotInv s) :
    PotInv (directive entry src first d s).state := by
  cases d with
  | identify => exact hs
  | readStatus sel part => exact potInv_of_seen (potSeen_readStatus _ _ _ s) hs
  | setCursor t r0 r1 c0 c1 m => exact potInv_of_seen (potSeen_setCursor _ _ _ _ _ _ _ s) hs
  | writeRun more bytes =>
    exact writeRun_keeps (P := PotInv) potInv_settle (fun {u} _ hu => potInv_of_seen (s := u) rfl hu)
      (fun _ _ _ _ => potInv_writeCell _ _ _ _) _ _ _ _ hs
  | readRun n => exact potInv_of_seen (potSeen_readRun _ _ s) hs
  | readTrack i => exact potInv_of_seen (congrArg potSeen (state_readTrack _ s)) hs
  | announceBoard row id => exact potInv_of_seen (potSeen_announceBoard _ _ _ s) hs
  | withdrawAnnounces => exact potInv_of_seen (potSeen_withdrawAnnounces s) hs
  | purgeTrack => exact potInv_of_seen (potSeen_purgeTrack s) hs
  | readAlarms en k src' sev st skip => exact potInv_of_seen (congrArg potSeen (state_readAlarms _ s)) hs
  | acknowledge form k src' => exact potInv_acknowledge _ _ _ hs
  | setState operand => exact setState_keeps (fun new => potInv_enterLine new _ hs) hs _ _ _
  | manualOutput f v =>
    exact serviceOnly_keeps _ _ hs (manualOutput_keeps (fun i v => potInv_manualHeater i v hs)
      (fun v => potInv_manualPumpOutput v hs) (fun v => potInv_of_seen (potSeen_manualFeederOutput v s) hs)
      (fun _ => potInv_of_seen (potSeen_demandReported s _) hs) hs _ _)
  | clockHold => exact potInv_of_seen (s := s) rfl hs
  | clockSet d h m sec => exact potInv_of_seen (potSeen_clockSet _ _ _ _ s) hs
  | clockRun => exact potInv_of_seen (s := s) rfl hs
  | lineRestart => exact serviceOnly_keeps _ _ hs (potInv_lineRestart hs)
  | setAddress a => exact serviceOnly_keeps _ _ hs (potInv_of_seen (potSeen_setAddress _ _ s) hs)

end Directives

/-! The step. -/

theorem feeder_of_feedRuns {s : State} (h : s.feedRuns = true) : s.pot.feeder = .feeding :=
  beq_iff_eq.mp (Bool.and_eq_true_iff.mp h).1

/-- The interlocks survive every part of a step. -/
theorem potInv_keptByParts : KeptByParts PotInv where
  pending {s} _ hs := potInv_of_seen (s := s) rfl hs
  reset _ _ _ _ _ := potInv_of_seen (s := State.reset) rfl potInv_reset
  handle := potInv_handle
  net {s} _ hs := potInv_of_seen (s := s) rfl hs
  raise _ _ _ hs := potInv_of_seen (potSeen_raise _ _ _ _) hs
  clear _ _ hs := potInv_of_seen (potSeen_clear _ _ _) hs
  marks {s} _ hs := potInv_of_seen (s := s) rfl hs
  sample _ _ _ hs := potInv_of_seen (potSeen_takeSample _ _ _ _) hs
  directive := potInv_directive
  count {s} hs := potInv_of_seen (s := s) rfl hs
  encoder _ _ hs := potInv_of_seen (potSeen_encoderLevels _ _ _) hs
  eye _ hs := potInv_of_seen (potSeen_eyeLevel _ _) hs
  speed hs := potInv_of_seen (potSeen_measureSpeed _) hs
  stall _ hs := potInv_of_seen (by simp [stallExpire]) hs
  idle := potInv_idleExpire
  heatFail _ hs := potInv_of_seen (potSeen_heatFailExpire _ _) hs
  feed hruns := potInv_feedExpire (feeder_of_feedRuns hruns)
  potRefresh hs := potInv_of_seen (potSeen_potRefresh _) hs
  flow _ hs := potInv_of_seen (potSeen_flowExpire _) hs
  runOn hs := potInv_of_seen (potSeen_runOnExpire _) hs
  exhaustRefresh hs := potInv_of_seen (potSeen_exhaustRefresh _) hs
  settled _ := potInv_enterLine _ _
  second {s} hs := potInv_of_seen (s := s) rfl hs
  age _ hs := potInv_of_seen (potSeen_ageExpire _ _) hs

/-- Settles O56: the interlocks survive the parts a step is made of, and so the step. -/
theorem stepKeepsPot : Obligations.StepKeepsPot := by
  intro s t hs hstep
  exact potInv_keptByParts.step hs hstep

end Sys2Proof.Proofs
end

section
/-! The feed timer (R82, R84). -/
namespace Sys2Proof.Proofs
open Sys2Proof Sys2Proof.Machine

theorem exec_feedTimerExpiry (s : State) :
    exec .feedTimerExpiry s = .next (if s.feedRuns then settle (feedExpire s) else s) := rfl

theorem feedRuns_iff (s : State) :
    s.feedRuns = true ↔ s.pot.feeder = .feeding ∧ ∃ t, s.pot.feedTimer = some t ∧ 0 < t.limit := by
  unfold State.feedRuns
  cases htimer : s.pot.feedTimer <;> simp

section Expiry
variable {s : State} {v b : Nat}

theorem riseSuffices_iff (hlevel : s.pot.level = some v) (hbase : s.pot.baseline = some b) :
    s.riseSuffices = true ↔ s.L 34 = 0 ∨ (s.L 34 : Int) ≤ (v : Int) - b := by
  simp [State.riseSuffices, State.minRise, State.levelRise, hlevel, hbase]

/-- A sufficient rise: the interval starts again from the latest level (R82). -/
theorem feedExpire_of_rise (hrise : s.riseSuffices = true) (hlevel : s.pot.level = some v) :
    feedExpire s = { s with pot.baseline := some v, pot.feedTimer := some ⟨0, s.L 33 * 1000⟩ } := by
  rw [feedExpire, if_pos hrise, restartInterval, hlevel]
  rfl

/-- A short rise before the third: it counts, and the count's parity gives the speed (R82). -/
theorem feedExpire_of_short (hrise : ¬ s.riseSuffices = true) (hcount : s.pot.failures < 2) (hlevel : s.pot.level = some v) :
    feedExpire s = deriveFeederCmd { s with
      pot.failures := s.pot.failures + 1, pot.baseline := some v, pot.feedTimer := some ⟨0, s.L 33 * 1000⟩
      pot.feedDrive := if (s.pot.failures + 1) % 2 = 0 then s.L 31 else s.L 32 } := by
  rw [feedExpire, if_neg hrise, if_pos hcount, restartInterval, hlevel]
  rfl

/-- The third short rise: the attempt ends in JAMMED with its alarm (R82, R84). -/
theorem feedExpire_of_jam (hrise : ¬ s.riseSuffices = true) (hcount : ¬ s.pot.failures < 2) (hlevel : s.pot.level = some v) :
    feedExpire s = (deriveFeederCmd { s with
      pot.failures := 3, pot.jam := true, pot.feeder := .jammed, pot.feedTimer := none, pot.baseline := none
      pot.feedDrive := 0 }).post (.raise .feedJam 0 (some v)) := by
  rw [feedExpire, if_neg hrise, if_neg hcount, enterJam]
  simp only [hlevel]
  rfl

end Expiry

/-- Settles O15: a running timer's expiry by the rise and the failure count; the command does nothing where no timer runs. -/
theorem feedTimerExpiry : Obligations.FeedTimerExpiry := by
  refine ⟨fun s t0 v b hfeeding htimer hlimit hlevel hbase => ?_, fun s hidle => ?_⟩
  · have hruns : s.feedRuns = true := (feedRuns_iff s).mpr ⟨hfeeding, t0, htimer, hlimit⟩
    rw [exec_feedTimerExpiry, if_pos hruns]
    congr 2
    by_cases hrise : s.riseSuffices = true
    · rw [if_pos ((riseSuffices_iff hlevel hbase).mp hrise), feedExpire_of_rise hrise hlevel]
    · rw [if_neg (mt (riseSuffices_iff hlevel hbase).mpr hrise)]
      by_cases hcount : s.pot.failures < 2
      · rw [if_pos hcount, feedExpire_of_short hrise hcount hlevel]
      · rw [if_neg hcount, feedExpire_of_jam hrise hcount hlevel]
  · have hrests : ¬ s.feedRuns = true := by
      rw [feedRuns_iff]
      rintro ⟨hfeeding, t, htimer, hlimit⟩
      obtain hother | hnone | ⟨t0, ht0, hzero⟩ := hidle
      · exact hother hfeeding
      · simp [hnone] at htimer
      · cases htimer.symm.trans ht0
        omega
    rw [exec_feedTimerExpiry, if_neg hrests]

end Sys2Proof.Proofs
end

section
/-! The refreshes, and what an offer to the originate queues of the two ports does (R88, R99, R151 to R153). -/
namespace Sys2Proof.Proofs
open Sys2Proof Sys2Proof.Machine

/-! The grant on DOWN. -/

section Grant
variable {s : State} {f : OutFn}

/-- What is removed at its grant is what may not be sent (R151). -/
theorem gone_eq_not_sendable (s : State) (f : OutFn) : (!(s.outputRow f).bound || s.marked f) = !s.sendable f := by
  simp [State.sendable]

theorem outputRun_eq_outputOf (s : State) (f : OutFn) (v : Nat) : s.outputRun f v = outputOf s f v := rfl

/-- An urgent zero that may not be sent is passed over (R151). -/
theorem downGranted_of_urgent_gone {rest : List OutFn} (hurgent : s.net.downUrgent = f :: rest) (hgone : s.sendable f = false) :
    downGranted { s with net.downUrgent := rest } = downGranted s := by
  have hdrop : s.net.downUrgent.dropWhile (fun g => !s.sendable g) = rest.dropWhile fun g => !s.sendable g := by
    simp [hurgent, hgone]
  simp only [← gone_eq_not_sendable] at hdrop
  unfold downGranted
  dsimp only
  rw [hdrop]
  rfl

/-! With no urgent zero waiting. -/

section Normal
variable {v : Nat} {rest : List (OutFn × Nat)} {run : List Byte} {fifo : List (List Byte)} (hurgent : s.net.downUrgent = [])
include hurgent

theorem downGranted_of_empty (hslots : s.net.downSlots = []) (hfifo : s.net.downFifo = []) : downGranted s = s := by
  simp only [downGranted, hurgent, hslots, hfifo, List.dropWhile_nil]
  rw [← hurgent, ← hslots, ← hfifo]

/-- A forward that no slot competes with (R153). -/
theorem downGranted_of_forward (hslots : s.net.downSlots = []) (hfifo : s.net.downFifo = run :: fifo) :
    downGranted s = { s with net.downFifo := fifo, net.downTx := some run } := by
  simp only [downGranted, hurgent, hslots, hfifo, List.dropWhile_nil]

/-- A forward before a slot: it counts (R153). -/
theorem downGranted_of_forward_first (hslots : s.net.downSlots = (f, v) :: rest) (hfifo : s.net.downFifo = run :: fifo)
    (hfair : s.net.downFair < 4) :
    downGranted s = { s with net.downFifo := fifo, net.downTx := some run, net.downFair := s.net.downFair + 1 } := by
  simp only [downGranted, hurgent, hslots, hfifo, List.dropWhile_nil, if_pos hfair]

section Turn
variable (hslots : s.net.downSlots = (f, v) :: rest) (hturn : s.net.downFifo = [] ∨ 4 ≤ s.net.downFair)
include hslots hturn

/-- The oldest slot is sent when its turn comes, after four forwards or with nothing to forward (R153). -/
theorem downGranted_of_slot_sent (hsend : s.sendable f = true) :
    downGranted s = { s with net.downSlots := rest, net.downFair := 0, net.downTx := some (outputOf s f v) } := by
  simp only [downGranted, gone_eq_not_sendable, hurgent, hslots, List.dropWhile_nil]
  cases hfifo : s.net.downFifo with
  | nil =>
    simp only [List.dropWhile_cons, hsend, Bool.not_true, Bool.false_eq_true, if_false]
  | cons run fifo =>
    have hfair : ¬ s.net.downFair < 4 := by simpa [hfifo] using hturn
    simp only [hsend, Bool.not_true, Bool.false_eq_true, if_false, if_neg hfair]

/-- A slot that may not be sent is emptied when its turn comes, which sets the fairness count to 0 (R151, R153; log entry 16). -/
theorem downGranted_of_slot_gone (hgone : s.sendable f = false) :
    downGranted { s with net.downSlots := rest, net.downFair := 0 } = downGranted s := by
  cases hfifo : s.net.downFifo with
  | nil =>
    have hdrop : ((f, v) :: rest).dropWhile (fun p => !s.sendable p.1) = rest.dropWhile fun p => !s.sendable p.1 := by
      simp [hgone]
    cases rest with
    | nil =>
      refine (downGranted_of_empty (s := { s with net.downSlots := [], net.downFair := 0 }) hurgent rfl hfifo).trans ?_
      simp only [downGranted, gone_eq_not_sendable, hurgent, hslots, hfifo, hdrop, List.dropWhile_nil]
    | cons p rest =>
      simp only [downGranted, gone_eq_not_sendable, hurgent, hslots, hfifo, hdrop, List.dropWhile_nil]
      rfl
  | cons run fifo =>
    have hfair : ¬ s.net.downFair < 4 := by simpa [hfifo] using hturn
    have hgranted : downGranted s = { s with
        net.downSlots := rest, net.downFifo := fifo, net.downFair := if rest = [] then 0 else 1
        net.downTx := some run } := by
      simp only [downGranted, gone_eq_not_sendable, hurgent, hslots, hfifo, List.dropWhile_nil, hgone, Bool.not_false,
        if_true, if_neg hfair]
    rw [hgranted]
    cases rest with
    | nil => exact downGranted_of_forward hurgent rfl hfifo
    | cons p rest => exact downGranted_of_forward_first hurgent rfl hfifo (Nat.zero_lt_succ _)

end Turn
end Normal

/-- The first row of R153 that applies on DOWN, where the bound on the removals leaves room for every waiting entry. -/
theorem arbitrateDown_eq_downGranted {n : Nat} (hroom : s.net.downUrgent.length + s.net.downSlots.length < n) :
    arbitrateDown n s = downGranted s := by
  induction n generalizing s with
  | zero => omega
  | succ n ih =>
    unfold arbitrateDown
    cases hurgent : s.net.downUrgent with
    | cons f rest =>
      dsimp only
      cases hsend : s.sendable f with
      | true => simp [downGranted, gone_eq_not_sendable, hurgent, hsend, outputRun_eq_outputOf]
      | false =>
        rw [← downGranted_of_urgent_gone hurgent hsend]
        refine ih ?_
        simp [hurgent] at hroom ⊢
        omega
    | nil =>
      cases hslots : s.net.downSlots with
      | nil =>
        cases hfifo : s.net.downFifo with
        | nil => exact (downGranted_of_empty hurgent hslots hfifo).symm
        | cons run fifo => exact (downGranted_of_forward hurgent hslots hfifo).symm
      | cons p rest =>
        obtain ⟨f, v⟩ := p
        have hslot (hturn : s.net.downFifo = [] ∨ 4 ≤ s.net.downFair) :
            (match grantSlot s f v rest with
              | (s1, true) => s1
              | (s1, false) => arbitrateDown n s1) = downGranted s := by
          unfold grantSlot
          cases hsend : s.sendable f with
          | true => exact (downGranted_of_slot_sent hurgent hslots hturn hsend).symm
          | false =>
            rw [← downGranted_of_slot_gone hurgent hslots hturn hsend]
            refine ih ?_
            simp [hurgent, hslots] at hroom ⊢
            omega
        by_cases hfair : 4 ≤ s.net.downFair
        · rw [show decide (Config.fairnessLimit ≤ s.net.downFair) = true from decide_eq_true hfair]
          exact hslot (.inr hfair)
        · rw [show decide (Config.fairnessLimit ≤ s.net.downFair) = false from decide_eq_false hfair]
          cases hfifo : s.net.downFifo with
          | nil => exact hslot (.inl hfifo)
          | cons run fifo => exact (downGranted_of_forward_first hurgent hslots hfifo (Nat.lt_of_not_le hfair)).symm

end Grant

theorem wakeDown_eq_downOffered (s : State) : s.wakeDown = downOffered s := by
  unfold State.wakeDown downOffered
  cases htx : s.net.downTx with
  | some run => rfl
  | none => exact arbitrateDown_eq_downGranted (Nat.lt_succ_self _)

/-! Commands on DOWN. -/

section Command
variable {s : State} {f : OutFn}

theorem sendable_iff : s.sendable f = true ↔ (s.outputRow f).bound = true ∧ s.marked f = false := by
  simp [State.sendable]

theorem fillSlot_eq (slots : List (OutFn × Nat)) (f : OutFn) (v : Nat) :
    fillSlot slots f v =
      if f ∈ slots.map (fun p => p.1) then slots.map fun p => if p.1 = f then (f, v) else p else slots ++ [(f, v)] := by
  have hfilled : (slots.any fun p => p.1 == f) = true ↔ f ∈ slots.map fun p => p.1 := by simp
  simp only [fillSlot, hfilled, beq_iff_eq]

/-- A value for a function that may be sent takes or keeps the function's slot (R151). -/
theorem commandValue_of_sendable (v : Nat) (hsend : s.sendable f = true) :
    s.commandValue f v = downOffered { s with
      net.downSlots :=
        if f ∈ s.net.downSlots.map (fun p => p.1) then s.net.downSlots.map fun p => if p.1 = f then (f, v) else p
        else s.net.downSlots ++ [(f, v)] } := by
  rw [State.commandValue, if_pos hsend, State.offerSlot, fillSlot_eq, wakeDown_eq_downOffered]

/-- A 0 for a function that may be sent joins the urgent queue once, and the function's slot is emptied (R151). -/
theorem commandZero_of_sendable (hsend : s.sendable f = true) :
    s.commandZero f = downOffered { s with
      net.downUrgent := if f ∈ s.net.downUrgent then s.net.downUrgent else s.net.downUrgent ++ [f]
      net.downSlots := s.net.downSlots.filter fun p => decide (p.1 ≠ f)
      net.downFair := if (s.net.downSlots.filter fun p => decide (p.1 ≠ f)) = [] then 0 else s.net.downFair } := by
  have hother : (fun p : OutFn × Nat => p.1 != f) = fun p => decide (p.1 ≠ f) := by
    funext p
    simp [bne, beq_eq_decide]
  rw [State.commandZero, if_pos hsend, State.offerUrgentZero, wakeDown_eq_downOffered, hother]
  simp only [fairAfter, List.isEmpty_iff, List.contains_iff_mem]

end Command

/-! Offers on UP. -/

theorem wakeUp_eq_upOffered (s : State) : s.wakeUp = upOffered s := by
  unfold State.wakeUp upOffered
  rw [arbitrateUp_eq_upGranted]
  cases s.net.upTx <;> rfl

/-- A DRAIN or STOP notice joins the urgent queue of 8, or falls back to the normal queue (R143, R152). -/
theorem offerUpUrgent_eq (n : Telegram) (s : State) :
    s.offerUpUrgent n =
      if s.net.upLink = true ∧ s.net.upUrgent.length < 8 then upOffered { s with net.upUrgent := s.net.upUrgent ++ [n] }
      else normalOffered n s := by
  unfold State.offerUpUrgent
  cases hlink : s.net.upLink with
  | false => simp [normalOffered, hlink]
  | true =>
    rw [offerUpNormal_eq_normalOffered, wakeUp_eq_upOffered]
    by_cases hroom : s.net.upUrgent.length < 8
    · exact (if_neg (Nat.not_le_of_lt hroom)).trans (if_pos ⟨rfl, hroom⟩).symm
    · exact (if_pos (Nat.le_of_not_lt hroom)).trans (if_neg fun h => hroom h.2).symm

/-! Changed commands. -/

theorem offerChange_eq_commandOffered (s : State) (f : OutFn) (v : Nat) : s.offerChange f v = commandOffered f v s := rfl

/-- An offer reads and writes the loop interface and reads the tables and the marks, nothing else (R151, R153). -/
theorem net_commandOffered {s t : State} (hnet : t.net = s.net) (htab : t.tab = s.tab) (hfilt : t.filt = s.filt) (f : OutFn)
    (v : Nat) : (commandOffered f v t).net = (commandOffered f v s).net := by
  unfold commandOffered
  split
  · exact net_commandZero hnet htab hfilt f
  · exact net_commandValue hnet htab hfilt f v

/-- A changed pump command is offered (R88). -/
theorem net_derivePump (s : State) :
    (derivePump s).net =
      (if s.derivedPump.1 = s.pot.pump then s else commandOffered .wavePump s.derivedPump.1 s).net := by
  unfold derivePump
  dsimp only
  by_cases hsame : s.derivedPump.1 = s.pot.pump
  · rw [if_pos hsame, if_pos hsame]
    split <;> rfl
  · rw [if_neg hsame, if_neg hsame, offerChange_eq_commandOffered]
    split <;> apply net_commandOffered <;> rfl

/-- A changed feeder command is offered, and reported in SERVICE (R88, R92, R98). -/
theorem deriveFeederCmd_of_ne {s : State} (hchanged : s.derivedFeeder ≠ s.pot.feederCmd) :
    deriveFeederCmd s =
      { commandOffered .feeder s.derivedFeeder { s with pot.feederCmd := s.derivedFeeder } with
        events := s.events ++ if s.line.state = .service then [.feederReport (decide (0 < s.derivedFeeder))] else [] } := by
  unfold deriveFeederCmd
  dsimp only
  rw [if_neg hchanged, ← offerChange_eq_commandOffered, offerChange_frame]
  split
  · rfl
  · rw [List.append_nil]

/-- A changed fan command is offered (R99). -/
theorem deriveFan_eq (s : State) :
    deriveFan s =
      if s.derivedFan = s.exh.fan then s else commandOffered .exhaustFan s.derivedFan { s with exh.fan := s.derivedFan } := rfl

theorem derivedFan_eq (s : State) :
    s.derivedFan =
      if s.exh.demand = false then 0 else if s.line.state = .service then s.exh.manualFan.getD 1000 else 1000 := by
  simp only [State.derivedFan, Bool.not_eq_true']

/-- Settles O16: each offer by the equation of its queue. -/
theorem refreshAndOffers : Obligations.RefreshAndOffers := by
  refine ⟨fun _ => rfl, fun _ => rfl, fun s f v hkept => ?_, fun s f v hbound hmark => ?_,
    fun s n => ⟨offerUpNormal_eq_normalOffered n s, offerUpUrgent_eq n s⟩, fun s => ?_⟩
  · have hsend : ¬ s.sendable f = true := by
      rw [sendable_iff]
      rintro ⟨hbound, hmark⟩
      simp [hbound, hmark] at hkept
    exact ⟨if_neg hsend, if_neg hsend⟩
  · have hsend : s.sendable f = true := sendable_iff.mpr ⟨hbound, hmark⟩
    exact ⟨commandValue_of_sendable v hsend, commandZero_of_sendable hsend⟩
  · refine ⟨congrArg (fun p => p.pump) (pot_derivePump s), net_derivePump s, ?_, ?_⟩
    · by_cases hsame : s.derivedFeeder = s.pot.feederCmd
      · exact (if_pos hsame).trans (if_pos hsame).symm
      · exact (deriveFeederCmd_of_ne hsame).trans (if_neg hsame).symm
    · dsimp only
      rw [← derivedFan_eq]
      exact deriveFan_eq s

end Sys2Proof.Proofs
end
